-- ==== Sys2Proof/Word.lean ====
section
/-! DEFINITION. The one datum of the block: a byte (R13, R50). -/

namespace Sys2Proof

/-- "A byte is 8 bits, unsigned, value 0..255" (R13); every stored item is one byte (R50). -/
abbrev Byte := BitVec 8

end Sys2Proof
end

