-- ==== Sys2Proof/Syntax.lean ====
section
/-! DEFINITION. The instructions: one constructor per row of spec/opcode_table.json (R12: "the instructions of this block are
(a) the status codes, each selecting one handler action, and (b) the foreground and collaborator operations"). -/

namespace Sys2Proof

/-- One step of an agent (R11). An event carries the data byte `D` only where its code reads it (R86); a foreground request
carries the fields its operation reads (R92). -/
inductive Instr where
  /-- `EV BUS_ERROR` (R172), `S & 0xF8` = 0x00. -/
  | evBusError
  /-- `EV START` (R146), `S & 0xF8` = 0x08. -/
  | evStart
  /-- `EV REP_START` (R147), `S & 0xF8` = 0x10. -/
  | evRepStart
  /-- `EV MT_SLA_ACK` (R148), `S & 0xF8` = 0x18. -/
  | evMtSlaAck
  /-- `EV MT_SLA_NACK` (R149), `S & 0xF8` = 0x20. -/
  | evMtSlaNack
  /-- `EV MT_DATA_ACK` (R150), `S & 0xF8` = 0x28. -/
  | evMtDataAck
  /-- `EV MT_DATA_NACK` (R151), `S & 0xF8` = 0x30. -/
  | evMtDataNack
  /-- `EV ARB_LOST` (R152), `S & 0xF8` = 0x38. -/
  | evArbLost
  /-- `EV MR_SLA_ACK` (R153), `S & 0xF8` = 0x40. -/
  | evMrSlaAck
  /-- `EV MR_SLA_NACK` (R154), `S & 0xF8` = 0x48. -/
  | evMrSlaNack
  /-- `EV MR_DATA_ACK` (R155), `S & 0xF8` = 0x50. -/
  | evMrDataAck
  /-- `EV MR_DATA_NACK` (R156), `S & 0xF8` = 0x58. -/
  | evMrDataNack
  /-- `EV SR_SLA_ACK` (R157), `S & 0xF8` = 0x60. -/
  | evSrSlaAck
  /-- `EV SR_ARB_LOST_SLA_ACK` (R158), `S & 0xF8` = 0x68. -/
  | evSrArbLostSlaAck
  /-- `EV SR_GCALL_ACK` (R159), `S & 0xF8` = 0x70. -/
  | evSrGcallAck
  /-- `EV SR_ARB_LOST_GCALL_ACK` (R160), `S & 0xF8` = 0x78. -/
  | evSrArbLostGcallAck
  /-- `EV SR_DATA_ACK` (R161), `S & 0xF8` = 0x80. -/
  | evSrDataAck (d : Byte)
  /-- `EV SR_DATA_NACK` (R162), `S & 0xF8` = 0x88. -/
  | evSrDataNack
  /-- `EV SR_GCALL_DATA_ACK` (R163), `S & 0xF8` = 0x90. -/
  | evSrGcallDataAck (d : Byte)
  /-- `EV SR_GCALL_DATA_NACK` (R164), `S & 0xF8` = 0x98. -/
  | evSrGcallDataNack
  /-- `EV SR_STOP` (R165), `S & 0xF8` = 0xA0. -/
  | evSrStop
  /-- `EV ST_SLA_ACK` (R166), `S & 0xF8` = 0xA8. -/
  | evStSlaAck
  /-- `EV ST_ARB_LOST_SLA_ACK` (R167), `S & 0xF8` = 0xB0. -/
  | evStArbLostSlaAck
  /-- `EV ST_DATA_ACK` (R168), `S & 0xF8` = 0xB8. -/
  | evStDataAck
  /-- `EV ST_DATA_NACK` (R169), `S & 0xF8` = 0xC0. -/
  | evStDataNack
  /-- `EV ST_LAST_DATA` (R170), `S & 0xF8` = 0xC8. -/
  | evStLastData
  /-- `EV UNKNOWN_D0` (R173), `S & 0xF8` = 0xD0. -/
  | evUnknownD0
  /-- `EV UNKNOWN_D8` (R173), `S & 0xF8` = 0xD8. -/
  | evUnknownD8
  /-- `EV UNKNOWN_E0` (R173), `S & 0xF8` = 0xE0. -/
  | evUnknownE0
  /-- `EV UNKNOWN_E8` (R173), `S & 0xF8` = 0xE8. -/
  | evUnknownE8
  /-- `EV UNKNOWN_F0` (R173), `S & 0xF8` = 0xF0. -/
  | evUnknownF0
  /-- `EV NO_INFO` (R171), `S & 0xF8` = 0xF8. -/
  | evNoInfo
  /-- `FG INIT` (R194), `op` = 0x0. -/
  | fgInit (addr : BitVec 7)
  /-- `FG READ` (R191), `op` = 0x1. -/
  | fgRead
  /-- `FG RESET_READ_CURSOR` (R192), `op` = 0x2. -/
  | fgResetReadCursor
  /-- `FG TRANSMIT` (R193), `op` = 0x3; `bytes` lists the `length` payload bytes, or is empty for the form `len=L` (R96). -/
  | fgTransmit (length : Nat) (bytes : List Byte)
  /-- `FG FORCE_STOP` (R195), `op` = 0x4. -/
  | fgForceStop
  /-- `FG RELEASE_BUS` (R196), `op` = 0x5. -/
  | fgReleaseBus
  /-- `FG CLEAR_ERROR` (R198), `op` = 0x6. -/
  | fgClearError
  /-- `FG RESUME` (R197). -/
  | fgResume
  /-- `BUS STOPDONE` (R60). -/
  | busStopdone
  /-- `COLLAB CLR STATUS` (R117), `k` = 0x0. -/
  | collabClrStatus
  /-- `COLLAB CLR CYCLE` (R117), `k` = 0x1. -/
  | collabClrCycle
  /-- `COLLAB CLR HOLD` (R117), `k` = 0x2. -/
  | collabClrHold
deriving DecidableEq, Repr

end Sys2Proof
end

