-- ==== Sys2Proof/WellFormed.lean ====
section
/-! DEFINITION. Which instruction terms spell an instruction of the spec. -/

namespace Sys2Proof

/-- A `TRANSMIT` request lists "exactly `length` bytes" (R92), or none where the line is `FG TRANSMIT len=L` ("bytes
unspecified", R96). -/
def payloadListed (length : Nat) (bytes : List Byte) : Bool :=
  decide (bytes.length = length) || bytes.isEmpty

/-- Every other operand's range is its type's: `addr` is 7 bits (R89), `d` one byte (R86). -/
def Instr.wf : Instr → Bool
  | .fgTransmit length bytes => payloadListed length bytes
  | _ => true

end Sys2Proof
end

