-- ==== Sys2Proof/Decode.lean ====
section
/-! DEFINITION. The words of the block's input ports (R39, R80, R92, R95), the decoder and the encoder, the status classes of
R82 with the status code map of R83, and the host's numbering of the opcode table's words. -/

namespace Sys2Proof

/-- One request at an input port of the block (R39), as the agent presents it: the field values that R96 calls the encoding
of a line. -/
inductive Request where
  /-- BUS: a bus event `EV(S, D)`, two 8-bit fields (R80). -/
  | event (S D : Byte)
  /-- BUS: the strobe `STOPDONE` (R39, R60). -/
  | stopDone
  /-- FG: a foreground request (the record of R92 with the fields op, addr, length and bytes). -/
  | fg (op : BitVec 4) (addr : BitVec 7) (length : Nat) (bytes : List Byte)
  /-- FG: the step that ends the wait of `force_stop` (R197). -/
  | fgResume
  /-- COLLAB: a clear request `CLR(k)` (R95). -/
  | clr (k : BitVec 2)
deriving DecidableEq, Repr

/-- Why a request spells no step. -/
inductive Reject where
  /-- Foreground op codes 0x7..0xF "spell no operation" (R94). -/
  | reservedOp (op : BitVec 4)
  /-- The collaborator code `k = 3` "is reserved and refused" (R95). -/
  | reservedClear (k : BitVec 2)
  /-- A `TRANSMIT` request whose list is not "a list of exactly `length` bytes" (R92; log entry 16). -/
  | lengthMismatch (length listed : Nat)
deriving DecidableEq, Repr

/-- `code := S & 0xF8` (R81): bits 2..0 of the status byte are ignored. -/
def statusCode (S : Byte) : Byte := S &&& 0xF8

/-- The field the decoder reads, `S[7:3]` (R81), as a number 0..31. -/
def statusField (S : Byte) : Nat := S.toNat / 8

/-- The status code map of R83: the instruction each value of `S[7:3]` selects. The last line is the one value left, 31. -/
def decodeStatus (S D : Byte) : Instr :=
  match statusField S with
  | 0 => .evBusError
  | 1 => .evStart
  | 2 => .evRepStart
  | 3 => .evMtSlaAck
  | 4 => .evMtSlaNack
  | 5 => .evMtDataAck
  | 6 => .evMtDataNack
  | 7 => .evArbLost
  | 8 => .evMrSlaAck
  | 9 => .evMrSlaNack
  | 10 => .evMrDataAck
  | 11 => .evMrDataNack
  | 12 => .evSrSlaAck
  | 13 => .evSrArbLostSlaAck
  | 14 => .evSrGcallAck
  | 15 => .evSrArbLostGcallAck
  | 16 => .evSrDataAck D
  | 17 => .evSrDataNack
  | 18 => .evSrGcallDataAck D
  | 19 => .evSrGcallDataNack
  | 20 => .evSrStop
  | 21 => .evStSlaAck
  | 22 => .evStArbLostSlaAck
  | 23 => .evStDataAck
  | 24 => .evStDataNack
  | 25 => .evStLastData
  | 26 => .evUnknownD0
  | 27 => .evUnknownD8
  | 28 => .evUnknownE0
  | 29 => .evUnknownE8
  | 30 => .evUnknownF0
  | _ => .evNoInfo

/-- The foreground op codes of R93; 0x7..0xF are reserved (R94). `addr` is read only by `INIT`, `length` and `bytes` only by
`TRANSMIT`; "fields an operation does not read are ignored" (R92). -/
def decodeFg (op : BitVec 4) (addr : BitVec 7) (length : Nat) (bytes : List Byte) : Except Reject Instr :=
  match op.toNat with
  | 0 => .ok (.fgInit addr)
  | 1 => .ok .fgRead
  | 2 => .ok .fgResetReadCursor
  | 3 => if payloadListed length bytes then .ok (.fgTransmit length bytes) else .error (.lengthMismatch length bytes.length)
  | 4 => .ok .fgForceStop
  | 5 => .ok .fgReleaseBus
  | 6 => .ok .fgClearError
  | _ => .error (.reservedOp op)

/-- The collaborator's codes of R95. -/
def decodeClr (k : BitVec 2) : Except Reject Instr :=
  match k.toNat with
  | 0 => .ok .collabClrStatus
  | 1 => .ok .collabClrCycle
  | 2 => .ok .collabClrHold
  | _ => .error (.reservedClear k)

/-- The decoder. It is total: "every value of `S` therefore decodes" (R81, R85), and what spells no step is rejected by
name (R94, R95). -/
def decode : Request → Except Reject Instr
  | .event S D => .ok (decodeStatus S D)
  | .stopDone => .ok .busStopdone
  | .fg op addr length bytes => decodeFg op addr length bytes
  | .fgResume => .ok .fgResume
  | .clr k => decodeClr k

/-- A foreground request with the fields its operation does not read at zero. -/
def fgWord (op : BitVec 4) : Request := .fg op 0 0 []

/-- The encoder: the field values of R83, R93, R95 and R96 ("bits 2..0 zero"; "0x00 when omitted"). -/
def encode : Instr → Request
  | .evBusError => .event 0x00 0
  | .evStart => .event 0x08 0
  | .evRepStart => .event 0x10 0
  | .evMtSlaAck => .event 0x18 0
  | .evMtSlaNack => .event 0x20 0
  | .evMtDataAck => .event 0x28 0
  | .evMtDataNack => .event 0x30 0
  | .evArbLost => .event 0x38 0
  | .evMrSlaAck => .event 0x40 0
  | .evMrSlaNack => .event 0x48 0
  | .evMrDataAck => .event 0x50 0
  | .evMrDataNack => .event 0x58 0
  | .evSrSlaAck => .event 0x60 0
  | .evSrArbLostSlaAck => .event 0x68 0
  | .evSrGcallAck => .event 0x70 0
  | .evSrArbLostGcallAck => .event 0x78 0
  | .evSrDataAck d => .event 0x80 d
  | .evSrDataNack => .event 0x88 0
  | .evSrGcallDataAck d => .event 0x90 d
  | .evSrGcallDataNack => .event 0x98 0
  | .evSrStop => .event 0xA0 0
  | .evStSlaAck => .event 0xA8 0
  | .evStArbLostSlaAck => .event 0xB0 0
  | .evStDataAck => .event 0xB8 0
  | .evStDataNack => .event 0xC0 0
  | .evStLastData => .event 0xC8 0
  | .evUnknownD0 => .event 0xD0 0
  | .evUnknownD8 => .event 0xD8 0
  | .evUnknownE0 => .event 0xE0 0
  | .evUnknownE8 => .event 0xE8 0
  | .evUnknownF0 => .event 0xF0 0
  | .evNoInfo => .event 0xF8 0
  | .fgInit addr => .fg 0x0 addr 0 []
  | .fgRead => fgWord 0x1
  | .fgResetReadCursor => fgWord 0x2
  | .fgTransmit length bytes => .fg 0x3 0 length bytes
  | .fgForceStop => fgWord 0x4
  | .fgReleaseBus => fgWord 0x5
  | .fgClearError => fgWord 0x6
  | .fgResume => .fgResume
  | .busStopdone => .stopDone
  | .collabClrStatus => .clr 0
  | .collabClrCycle => .clr 1
  | .collabClrHold => .clr 2

/-- The status classes of R82: the sets of codes that share one action. -/
inductive StatusClass where
  | start
  | addrRx
  | dataRx
  | dataNackRx
  | stopRx
  | addrTx
  | sendNext
  | txDone
  | noInfo
  | busError
  | masterDefensive
  | masterArbLost
  | unknown
deriving DecidableEq, Repr

/-- `STATUS_MAP(code)`, the class column of R83. The five codes with no defined meaning (R84) are the last line. -/
def statusMap (code : Byte) : StatusClass :=
  match code.toNat with
  | 0x00 => .busError
  | 0x08 => .start
  | 0x10 => .start
  | 0x18 => .masterDefensive
  | 0x20 => .masterDefensive
  | 0x28 => .masterDefensive
  | 0x30 => .masterDefensive
  | 0x38 => .masterArbLost
  | 0x40 => .masterDefensive
  | 0x48 => .masterDefensive
  | 0x50 => .masterDefensive
  | 0x58 => .masterDefensive
  | 0x60 => .addrRx
  | 0x68 => .addrRx
  | 0x70 => .addrRx
  | 0x78 => .addrRx
  | 0x80 => .dataRx
  | 0x88 => .dataNackRx
  | 0x90 => .dataRx
  | 0x98 => .dataNackRx
  | 0xA0 => .stopRx
  | 0xA8 => .addrTx
  | 0xB0 => .addrTx
  | 0xB8 => .sendNext
  | 0xC0 => .txDone
  | 0xC8 => .txDone
  | 0xF8 => .noInfo
  | _ => .unknown

/-- Which agent's port a request uses. -/
inductive Port where
  | bus
  | fg
  | collab
deriving DecidableEq, Repr

/-- The port of a request (R39). -/
def Request.port : Request → Port
  | .event _ _ => .bus
  | .stopDone => .bus
  | .fg _ _ _ _ => .fg
  | .fgResume => .fg
  | .clr _ => .collab

/-- A request whose unread fields are zero, the form R96 writes: bits 2..0 of a status byte zero, `D` zero but for the two
codes that read it (R86), `addr`, `length` and `bytes` zero or empty but for the operation that reads them (R92). -/
def Request.canonical : Request → Bool
  | .event S D => decide (S = statusCode S) && (decide (statusMap (statusCode S) = .dataRx) || decide (D = 0))
  | .fg op addr length bytes =>
    (decide (op = 0) || decide (addr = 0)) && (decide (op = 3) || (decide (length = 0) && bytes.isEmpty))
  | _ => true

/-- The request a word of spec/opcode_table.json stands for. A word carries no port, so the port is read from the number of
bits: 8 for a bus event (`S`, and `D` in a second byte), 4 for a foreground op, 2 for a clear code. Where the number of bits
is rounded up to a byte, the words 1..6 are read as foreground ops: a table word has zeros in the bits its row leaves open,
so none of them is a status row's word (DESIGN CHOICE, log entry 8). -/
def tableRequest (nbits w : Nat) : Option Request :=
  if nbits = 2 then some (.clr (BitVec.ofNat 2 w))
  else if nbits = 4 then some (fgWord (BitVec.ofNat 4 w))
  else if nbits = 8 ∨ nbits = 16 then
    if nbits = 8 ∧ 1 ≤ w ∧ w ≤ 6 then some (fgWord (BitVec.ofNat 4 w))
    else some (.event (BitVec.ofNat 8 w) (BitVec.ofNat 8 (w / 256)))
  else none

/-- What the decoder reads from a word of the opcode table. -/
def decodeTableWord (nbits w : Nat) : Option Instr :=
  match tableRequest nbits w with
  | none => none
  | some r =>
    match decode r with
    | .ok i => some i
    | .error _ => none

end Sys2Proof
end

