-- ==== Sys2Proof/Config.lean ====
section
/-! DEFINITION. The implementation parameters of R8 with the constraints of R9, the two storage spaces of R51, and the
model's free values (bytes the spec leaves unspecified). -/

namespace Sys2Proof.Config

/-- The two address spaces of R51: the receive storage `RX:i` and the transmit storage `TX:i`. -/
inductive Space where
  | rx
  | tx
deriving DecidableEq, Repr

/-- The parameters of R8 that the source leaves open (`N_RX`, `N_TX`, `PENDING_SLA`) and the four command bytes, which R8
decides and calls parameters. They are fixed for a whole run: no instruction writes one (R36, R243). -/
structure Params where
  /-- `N_RX`: slots in the receive ring (R8, R22). -/
  nRx : Nat
  /-- `N_TX`: bytes in the transmit staging buffer (R8, R26). -/
  nTx : Nat
  /-- `PENDING_SLA`: the address byte loaded on a start code (R36, R88). -/
  pendingSla : Byte
  /-- `CMD_STATUS_REPORT` (R87). -/
  cmdStatusReport : Byte
  /-- `CMD_CYCLE_START` (R87). -/
  cmdCycleStart : Byte
  /-- `CMD_FEED_HOLD` (R87). -/
  cmdFeedHold : Byte
  /-- `CMD_RESET` (R87). -/
  cmdReset : Byte
deriving DecidableEq, Repr

/-- The constraints of R9: `N_RX >= 2`, `N_TX >= 1`, the four command bytes pairwise distinct. "A model refuses a
configuration that breaks any of these." -/
def Params.wf (p : Params) : Bool :=
  decide (2 ≤ p.nRx) && decide (1 ≤ p.nTx) &&
  p.cmdStatusReport != p.cmdCycleStart && p.cmdStatusReport != p.cmdFeedHold && p.cmdStatusReport != p.cmdReset &&
  p.cmdCycleStart != p.cmdFeedHold && p.cmdCycleStart != p.cmdReset && p.cmdFeedHold != p.cmdReset

/-- Free value: what byte `i` of a storage space holds at power-on, until it is first written (R54, 93 U1: "any value";
log entry 3). It has no body, so nothing can be proved of its value. -/
opaque unwrittenByte : Space → Nat → Byte

/-- Free value: byte `i` of the `n`-th `FG TRANSMIT len=L` request, whose bytes R96 leaves unspecified (93 U2: "any value";
log entry 4). -/
opaque unspecifiedByte : Nat → Nat → Byte

end Sys2Proof.Config
end

