-- ==== Sys2Proof/Machine/Constants.lean ====
section
/-! DEFINITION. The values R8 decides, and the parameter values the reset state takes. -/

namespace Sys2Proof.Machine

/-- `TERMINATOR`: "byte written on stop-while-receiving" (R8). -/
def terminator : Byte := 0x00

/-- `DEFAULT_TX_BYTE`: "synthesized one-byte payload" (R8, R138). -/
def defaultTxByte : Byte := 0x00

/-- `TX_FILL`: "byte loaded when no staged byte remains" (R8, R139). -/
def txFill : Byte := 0x00

/-- `ERR_NONE`: "value of `ERR_LATCH` when nothing is latched" (R8, R91). -/
def errNone : Byte := 0xFF

/-- The parameter values of `State.reset`. The command bytes are the defaults of R8 and R87. `N_RX`, `N_TX` and `PENDING_SLA`
are OPEN in R8: the values here are those the test vectors use "as an example only" (92 D7) and are this model's choice
(DESIGN CHOICE, log entry 1). The meanings and the statements are about every parameter value. -/
def resetParams : Config.Params :=
  { nRx := 4
    nTx := 4
    pendingSla := 0x10
    cmdStatusReport := 0x3F
    cmdCycleStart := 0x7E
    cmdFeedHold := 0x21
    cmdReset := 0x18 }

end Sys2Proof.Machine
end

