-- ==== Sys2Proof/Machine/State.lean ====
section
/-! DEFINITION. The state of the block (R20 to R42), its power-on value (R240), and the ways a step can stop. -/

namespace Sys2Proof.Machine

/-- `MODE` (R21). Value 3 is never written, so "a model may represent `MODE` as a three-valued type" (93 U8; log entry 13);
its 2-bit encoding is `Mode.encoding` in Machine/Operands.lean. -/
inductive Mode where
  | ready
  | slaveReceive
  | slaveTransmit
deriving DecidableEq, Repr

/-- `FG_STATE` (R37). -/
inductive FgState where
  | idle
  | waitStop
deriving DecidableEq, Repr

/-- The reasons of `MODEL_FAULT` (R42): "The only reason this spec raises is `INIT_MID_TRANSACTION`". -/
inductive ModelFault where
  | initMidTransaction
deriving DecidableEq, Repr

/-- `TransmitError` (R220): "two variants and no numeric code". -/
inductive TransmitError where
  | tooLarge
  | wrongMode
deriving DecidableEq, Repr

/-- The output "FG result" of R40 in one step. -/
inductive FgResult where
  /-- no operation delivers a result in this step -/
  | inactive
  /-- an operation whose result is "none" in R93 completes -/
  | done
  /-- the result of `read`: `Some(b)` or `None` (R191) -/
  | read (r : Option Byte)
  /-- `Ok` of `transmit` (R193) -/
  | transmitOk
  /-- `Err(e)` of `transmit` (R193) -/
  | transmitErr (e : TransmitError)
deriving DecidableEq, Repr

/-- The pulses and the result of the step just taken (R14: "driven for the current step only; outputs not emitted in a step
are inactive in that step"; R40; log entry 7). The levels of R40 are registers of `State`. -/
structure Outputs where
  /-- `DATA_LOAD(b)` -/
  load : Option Byte
  /-- `STOP_REQ` -/
  stopReq : Bool
  /-- `START_REQ`, which no rule emits (R40, 92 D19) -/
  startReq : Bool
  /-- `RELEASE` -/
  release : Bool
  /-- `RESET_CALL` -/
  resetCall : Bool
  /-- the FG result -/
  result : FgResult
deriving DecidableEq, Repr

/-- All outputs inactive. -/
def Outputs.quiet : Outputs :=
  { load := none, stopReq := false, startReq := false, release := false, resetCall := false, result := .inactive }

/-- A storage array: the bytes written since power-on, as (index, byte) pairs with strictly rising indices. An index that is
not listed holds the unspecified power-on byte (R54; log entry 3). -/
abbrev Memory := List Host.Cell

/-- The state of the block. A field's docstring names the spec's register; the last two fields are the model's own. -/
structure State where
  /-- the parameters of R8, `PENDING_SLA` (R36) among them; no instruction writes them -/
  cfg : Config.Params
  /-- `MODE` (R21) -/
  mode : Mode
  /-- `RX_BUF` (R22) -/
  rxBuf : Memory
  /-- `RX_HEAD`, the next write slot (R23) -/
  rxHead : Nat
  /-- `RX_TAIL`, the next read slot (R24) -/
  rxTail : Nat
  /-- `RX_MARK`, the rewind mark (R25) -/
  rxMark : Nat
  /-- `TX_BUF` (R26) -/
  txBuf : Memory
  /-- `TX_LEN`, the staged length (R27) -/
  txLen : Nat
  /-- `TX_IDX`, the transmit read cursor (R28) -/
  txIdx : Nat
  /-- `ACK_EN` (R29) -/
  ackEn : Bool
  /-- `IRQ_EN` (R30) -/
  irqEn : Bool
  /-- `BUS_EN` (R31) -/
  busEn : Bool
  /-- `STOP_PENDING` (R32) -/
  stopPending : Bool
  /-- `OWN_ADDR` (R33) -/
  ownAddr : BitVec 7
  /-- `ERR_LATCH` (R34) -/
  errLatch : Byte
  /-- `REQ_STATUS` (R35) -/
  reqStatus : Bool
  /-- `REQ_CYCLE` (R35) -/
  reqCycle : Bool
  /-- `REQ_HOLD` (R35) -/
  reqHold : Bool
  /-- `FG_STATE` (R37) -/
  fgState : FgState
  /-- `MODEL_FAULT`, a set (R42): no reason is listed twice -/
  modelFault : List ModelFault
  /-- the outputs of the step just taken (R40) -/
  out : Outputs
  /-- model's own: how many requests with unspecified bytes have been staged (the index of the free value, log entry 4) -/
  draws : Nat
  /-- model's own: the requests the agents present next, first to be taken first (R11, R39; log entry 5) -/
  inputs : List Request
deriving DecidableEq, Repr

/-- What stops the machine with a fault. -/
inductive Fault where
  /-- An access to byte `i` of a storage space that has no such byte: R51 names `RX:i` for `i < N_RX` and `TX:i` for
  `i < N_TX` only. Raised by `memRead` and `memWrite`, in states whose indices are outside the ranges of R23 to R28. Safe:
  no state the rules reach raises it (log entry 10). -/
  | noSuchByte (space : Config.Space) (i : Nat)
deriving DecidableEq, Repr

/-- Why the model refuses a step. All are safe: the spec has no such step. -/
inductive Refusal where
  /-- An instruction without a meaning. No arm of this model answers with it. -/
  | notModelled (mnemonic : String)
  /-- The parameters break a constraint of R9: "a model refuses a configuration that breaks any of these". Raised by `step`. -/
  | badConfiguration
  /-- No agent presents a request (log entry 5). Raised by `step`. -/
  | noRequest
  /-- The request spells no step (R94, R95). Raised by `step`. -/
  | undecodable (r : Reject)
  /-- An `EV` step with `BUS_EN = 0` or `IRQ_EN = 0` (R11, R227). Raised by `enterHandler` (log entry 6). -/
  | eventNotEnabled
  /-- A foreground operation with `FG_STATE = WaitStop` (R11, R37). Raised by `foregroundOp` (log entry 6). -/
  | foregroundBusy
  /-- `FGRESUME` without `FG_STATE = WaitStop` and `STOP_PENDING = 0` (R11, R197). Raised by `execFgResume` (log entry 6). -/
  | resumeNotEnabled
  /-- `STOPDONE` with `STOP_PENDING = 0` (R11, R60). Raised by `execBusStopdone` (log entry 6). -/
  | stopDoneNotEnabled
deriving DecidableEq, Repr

/-- The power-on state of R240 with the parameters `p`. Storage lists nothing: its contents are unspecified (R54). `out`,
`draws` and `inputs` are not the spec's registers (log entries 4, 5 and 7). -/
def State.powerOn (p : Config.Params) : State :=
  { cfg := p
    mode := .ready
    rxBuf := []
    rxHead := 0
    rxTail := 0
    rxMark := 0
    txBuf := []
    txLen := 0
    txIdx := 0
    ackEn := false
    irqEn := false
    busEn := false
    stopPending := false
    ownAddr := 0
    errLatch := errNone
    reqStatus := false
    reqCycle := false
    reqHold := false
    fgState := .idle
    modelFault := []
    out := Outputs.quiet
    draws := 0
    inputs := [] }

/-- The machine right after power-on (R240), with the parameter values of `resetParams` (log entry 1). -/
def State.reset : State := State.powerOn resetParams

end Sys2Proof.Machine
end

