-- ==== Sys2Proof/Machine/Flags.lean ====
section
/-! DEFINITION. The predicates of the receive ring (R57), the comparator (R110), the request flag latch (R112 to R118) and
the acknowledge level's value after a received byte (R134). -/

namespace Sys2Proof.Machine

/-- An index one slot on in a space of `n` slots: `i <- (i + 1) mod N` (R70). -/
def nextIndex (n i : Nat) : Nat := (i + 1) % n

/-- `rx_empty := (RX_HEAD == RX_TAIL)` (R57). -/
def rxEmpty (s : State) : Bool := s.rxHead == s.rxTail

/-- `rx_full := ((RX_HEAD + 1) mod N_RX == RX_TAIL)` (R57). -/
def rxFull (s : State) : Bool := nextIndex s.cfg.nRx s.rxHead == s.rxTail

/-- `rx_count := (RX_HEAD + N_RX - RX_TAIL) mod N_RX` (R57). -/
def rxCount (s : State) : Nat := (s.rxHead + s.cfg.nRx - s.rxTail) % s.cfg.nRx

/-- The control actions of R19. -/
inductive ControlAction where
  | requestStatusReport
  | requestCycleStart
  | requestFeedHold
  | requestReset
deriving DecidableEq, Repr

/-- `intercept(b)`, the comparator of R110. -/
def intercept (p : Config.Params) (b : Byte) : Option ControlAction :=
  if b = p.cmdStatusReport then some .requestStatusReport
  else if b = p.cmdCycleStart then some .requestCycleStart
  else if b = p.cmdFeedHold then some .requestFeedHold
  else if b = p.cmdReset then some .requestReset
  else none

/-- The gate of R111: the comparator is applied only when `MODE == SlaveReceive`. -/
def intercepted (s : State) (d : Byte) : Option ControlAction :=
  match s.mode with
  | .slaveReceive => intercept s.cfg d
  | .ready => none
  | .slaveTransmit => none

/-- The three sticky request flags of R35, named as `CLR(k)` names them (R95). -/
inductive RequestFlag where
  | status
  | cycle
  | hold
deriving DecidableEq, Repr

/-- One request flag at a value: 1 by the interceptor (R112 to R114), 0 by `CLR(k)` (R117). -/
def setRequestFlag (k : RequestFlag) (v : Bool) (s : State) : State :=
  match k with
  | .status => { s with reqStatus := v }
  | .cycle => { s with reqCycle := v }
  | .hold => { s with reqHold := v }

/-- `ACK_EN <- v` (R29). -/
def setAck (v : Bool) (s : State) : State := { s with ackEn := v }

/-- The acknowledge decision after an intercepted command: `ACK_EN <- (if rx_full then 0 else 1)` (R134). -/
def ackIfRoom (s : State) : State := setAck (!rxFull s) s

/-- The acknowledge decision after a transmitted byte: `ACK_EN <- (if TX_IDX < TX_LEN then 1 else 0)` (R139). -/
def ackIfStaged (s : State) : State := setAck (decide (s.txIdx < s.txLen)) s

end Sys2Proof.Machine
end

