-- ==== Sys2Proof/Machine/Operands.lean ====
section
/-! DEFINITION. The operands of the foreground operations (R92, R96), the encodings of `MODE` and of the SLA byte (R88, R90)
and the side-effect-free read ports (R41). -/

namespace Sys2Proof.Machine

/-- Byte `i` of a `TRANSMIT` payload: the listed byte, or a free value where the request lists none (`len=L`, R96, 93 U2). -/
def payloadByte (draw : Nat) (bytes : List Byte) (i : Nat) : Byte :=
  match bytes[i]? with
  | some b => b
  | none => Config.unspecifiedByte draw i

/-- The `length` bytes a `TRANSMIT` copies (R193). -/
def payload (draw length : Nat) (bytes : List Byte) : List Byte :=
  (List.range length).map (payloadByte draw bytes)

/-- How many free values a payload uses up: one index for a request with unlisted bytes (log entry 4). -/
def payloadDraws (length : Nat) (bytes : List Byte) : Nat :=
  if bytes.length < length then 1 else 0

/-- The 2-bit encoding of `MODE` (R90). -/
def Mode.encoding : Mode → BitVec 2
  | .ready => 0
  | .slaveReceive => 1
  | .slaveTransmit => 2

/-- The SLA byte of R88: the address in bits 7..1, R/W in bit 0. -/
def slaByte (addr : BitVec 7) (rw : BitVec 1) : Byte := addr ++ rw

/-- `PENDING_SLA[7:1]`, the address (R88). -/
def slaAddress (b : Byte) : BitVec 7 := b.extractLsb' 1 7

/-- `PENDING_SLA[0]`, R/W: 1 for an initiator read (R88). -/
def slaReadWrite (b : Byte) : BitVec 1 := b.extractLsb' 0 1

/-- FG's read port of `MODE`, open while `FG_STATE = Idle` (R41, R199). -/
def readModePort (s : State) : Option (BitVec 2) :=
  match s.fgState with
  | .idle => some s.mode.encoding
  | .waitStop => none

/-- FG's read port of `ERR_LATCH`, open while `FG_STATE = Idle` (R41, R199). -/
def readErrPort (s : State) : Option Byte :=
  match s.fgState with
  | .idle => some s.errLatch
  | .waitStop => none

/-- COLLAB's read ports of the request flags, open "at any time" (R41): `REQ_STATUS`, `REQ_CYCLE`, `REQ_HOLD`. -/
def readFlagPorts (s : State) : Bool × Bool × Bool := (s.reqStatus, s.reqCycle, s.reqHold)

/-- The output record of R98. -/
structure OutputRecord where
  load : Option Byte
  ack : Bool
  stop : Bool
  release : Bool
  resetCall : Bool
deriving DecidableEq, Repr

/-- The record of the step just taken (R98): `ack` is `ACK_EN` after the step, the other entries are the step's pulses. -/
def outputRecord (s : State) : OutputRecord :=
  { load := s.out.load, ack := s.ackEn, stop := s.out.stopReq, release := s.out.release, resetCall := s.out.resetCall }

end Sys2Proof.Machine
end

