-- ==== Sys2Proof/Machine/Ops.lean ====
section
/-! DEFINITION. The shared operations: storage access (R50 to R54), the ring primitives (R55 to R59), the output pulses (R14,
R40), the stop sequence (R136), the error recovery (R142, R145), entering and leaving the handler (R130, R230, R231), the
foreground step (R190), and taking the next request (R11). -/

namespace Sys2Proof.Machine

/-! ### Storage -/

/-- The byte a storage array lists at an index; `none` where nothing has been written since power-on (R54). -/
def Memory.read? : Memory → Nat → Option Byte
  | [], _ => none
  | (j, b) :: m, i => if j = i then some b else Memory.read? m i

/-- Writing one byte keeps the indices strictly rising. -/
def Memory.write (i : Nat) (b : Byte) : Memory → Memory
  | [] => [(i, b)]
  | (j, c) :: m =>
    if i < j then (i, b) :: (j, c) :: m
    else if i = j then (i, b) :: m
    else (j, c) :: Memory.write i b m

/-- The canonical form: strictly rising indices. No value is what an unlisted index reads as, so no entry equals it. -/
def Memory.wf : Memory → Bool
  | [] => true
  | [_] => true
  | (i, _) :: (j, c) :: m => decide (i < j) && Memory.wf ((j, c) :: m)

/-- The number of bytes of a space: `N_RX` or `N_TX` (R51). -/
def spaceSize (sp : Config.Space) (s : State) : Nat :=
  match sp with
  | .rx => s.cfg.nRx
  | .tx => s.cfg.nTx

/-- The storage of a space. -/
def spaceMem (sp : Config.Space) (s : State) : Memory :=
  match sp with
  | .rx => s.rxBuf
  | .tx => s.txBuf

/-- The storage of a space replaced. -/
def setSpaceMem (sp : Config.Space) (m : Memory) (s : State) : State :=
  match sp with
  | .rx => { s with rxBuf := m }
  | .tx => { s with txBuf := m }

/-- The byte at an index: the byte last written there (R64), or the unspecified power-on byte (R54). -/
def byteAt (sp : Config.Space) (i : Nat) (s : State) : Byte :=
  match (spaceMem sp s).read? i with
  | some b => b
  | none => Config.unwrittenByte sp i

/-- `MemRead(sp:i, 1)` (R14, R50, R51). -/
def memRead (sp : Config.Space) (i : Nat) (s : State) : Except Fault Byte :=
  if i < spaceSize sp s then .ok (byteAt sp i s) else .error (.noSuchByte sp i)

/-- `MemWrite(sp:i, 1, b)` (R14, R50, R51). -/
def memWrite (sp : Config.Space) (i : Nat) (b : Byte) (s : State) : Except Fault State :=
  if i < spaceSize sp s then .ok (setSpaceMem sp ((spaceMem sp s).write i b) s) else .error (.noSuchByte sp i)

/-- The copy loop of `TRANSMIT`: bytes written at `i`, `i + 1`, … of the transmit storage (R193). -/
def copyToTx (i : Nat) (bytes : List Byte) (s : State) : Except Fault State :=
  match bytes with
  | [] => .ok s
  | b :: rest =>
    match memWrite .tx i b s with
    | .ok t => copyToTx (i + 1) rest t
    | .error f => .error f

/-! ### Registers and output pulses -/

/-- The start of a step: no output is active until it is emitted (R14). -/
def beginStep (s : State) : State := { s with out := Outputs.quiet }

/-- `MODE <- m` (R21). -/
def setMode (m : Mode) (s : State) : State := { s with mode := m }

/-- `emit DATA_LOAD(b)` (R40). -/
def emitLoad (b : Byte) (s : State) : State := { s with out := { s.out with load := some b } }

/-- `emit RELEASE` (R40). -/
def emitRelease (s : State) : State := { s with out := { s.out with release := true } }

/-- `emit RESET_CALL` (R40, R115). The collaborator's routine "is assumed to return and to change no register of this block"
(R115; log entry 11). -/
def emitResetCall (s : State) : State := { s with out := { s.out with resetCall := true } }

/-- `return v`: the result of a foreground operation (R14, R199). -/
def giveResult (r : FgResult) (s : State) : State := { s with out := { s.out with result := r } }

/-- `emit STOP_REQ`, `STOP_PENDING <- 1` and `ACK_EN <- 1`: the stop sequence of the handler (R136), which `FORCE_STOP`
starts too (R195). It does not wait. -/
def stopSeq (s : State) : State :=
  { s with out := { s.out with stopReq := true }, stopPending := true, ackEn := true }

/-- `raise ModelFault(r)`: adds `r` to the set `MODEL_FAULT` (R42). -/
def raiseModelFault (r : ModelFault) (s : State) : State :=
  if r ∈ s.modelFault then s else { s with modelFault := r :: s.modelFault }

/-! ### The ring primitives -/

/-- `push(b)` (R55): the returned flag says whether the byte was stored. -/
def push (b : Byte) (s : State) : Except Fault (Bool × State) :=
  if rxFull s then .ok (false, s)
  else
    match memWrite .rx s.rxHead b s with
    | .ok t => .ok (true, { t with rxHead := nextIndex s.cfg.nRx s.rxHead })
    | .error f => .error f

/-- `pop()` (R56). -/
def pop (s : State) : Except Fault (Option Byte × State) :=
  if rxEmpty s then .ok (none, s)
  else
    match memRead .rx s.rxTail s with
    | .ok b => .ok (some b, { s with rxTail := nextIndex s.cfg.nRx s.rxTail })
    | .error f => .error f

/-- `terminate()` (R58): the terminator at the read index "if room allows", no index changed. -/
def terminate (s : State) : Except Fault State :=
  if rxFull s then .ok s else memWrite .rx s.rxTail terminator s

/-- `rewind()` (R59). -/
def rewind (s : State) : State := { s with rxTail := s.rxMark }

/-! ### The interceptor's actions -/

/-- `perform(a)` (R120): R112, R113, R114 or R115. -/
def perform (a : ControlAction) (s : State) : State :=
  match a with
  | .requestStatusReport => setRequestFlag .status true s
  | .requestCycleStart => setRequestFlag .cycle true s
  | .requestFeedHold => setRequestFlag .hold true s
  | .requestReset => emitResetCall s

/-! ### Errors -/

/-- The block's one recovery from an error condition (R224): the code is latched, a stop sequence is requested and the mode
returns to `Ready`. `BusError` (R142) and `Unknown` (R145) both take it. -/
def recoverFromBusError (code : Byte) (s : State) : State :=
  setMode .ready (stopSeq { s with errLatch := code })

/-! ### Entering and leaving a step -/

/-- The answer of a step whose action can only end in a state or a storage fault. -/
def outcomeOf (r : Except Fault State) : Host.Outcome State Fault Refusal :=
  match r with
  | .ok t => .next t
  | .error f => .fault f

/-- One handler invocation (R130): enabled when `BUS_EN = 1` and `IRQ_EN = 1`, in any `FG_STATE`. Entry "saves nothing and
changes no mask" (R230); the action runs to completion. -/
def enterHandler (action : State → Except Fault State) (s : State) : Host.Outcome State Fault Refusal :=
  if s.busEn && s.irqEn then outcomeOf (action (beginStep s)) else .refused .eventNotEnabled

/-- One foreground operation (R190): enabled when `FG_STATE = Idle`. -/
def foregroundOp (op : State → Except Fault State) (s : State) : Host.Outcome State Fault Refusal :=
  match s.fgState with
  | .idle => outcomeOf (op (beginStep s))
  | .waitStop => .refused .foregroundBusy

/-! ### The requests the agents present -/

/-- The next request and the state without it (R11: a run is a sequence of steps). -/
def takeRequest (s : State) : Option (Request × State) :=
  match s.inputs with
  | [] => none
  | r :: rest => some (r, { s with inputs := rest })

/-- The state with what the request's step needs to be enabled (R11; the "match" column of the two INTERNAL rows of the
opcode table): used by `State.withFetchWord` alone (log entry 9). -/
def enableFor (r : Request) (s : State) : State :=
  match r with
  | .event _ _ => { s with busEn := true, irqEn := true }
  | .stopDone => { s with stopPending := true }
  | .fg _ _ _ _ => { s with fgState := .idle }
  | .fgResume => { s with fgState := .waitStop, stopPending := false }
  | .clr _ => s

/-- A request placed where the next step takes it. -/
def placeRequest (r : Request) (s : State) : State :=
  { enableFor r s with inputs := r :: s.inputs }

end Sys2Proof.Machine
end

