-- ==== Sys2Proof/Machine/Agents.lean ====
section
/-! DEFINITION. The steps of the other agents: BUS's stop completion (R60) and COLLAB's flag clears (R117). -/

namespace Sys2Proof.Machine

/-- `STOPDONE` (R60): enabled while `STOP_PENDING = 1`; "does `STOP_PENDING <- 0` and nothing else". -/
def execBusStopdone (s : State) : Host.Outcome State Fault Refusal :=
  if s.stopPending then .next { beginStep s with stopPending := false } else .refused .stopDoneNotEnabled

/-- `CLR(STATUS)` (R117), "always enabled". -/
def execCollabClrStatus (s : State) : Host.Outcome State Fault Refusal :=
  .next (setRequestFlag .status false (beginStep s))

/-- `CLR(CYCLE)` (R117). -/
def execCollabClrCycle (s : State) : Host.Outcome State Fault Refusal :=
  .next (setRequestFlag .cycle false (beginStep s))

/-- `CLR(HOLD)` (R117). -/
def execCollabClrHold (s : State) : Host.Outcome State Fault Refusal :=
  .next (setRequestFlag .hold false (beginStep s))

end Sys2Proof.Machine
end

