-- ==== Sys2Proof/Machine/Handler.lean ====
section
/-! DEFINITION. The bus state machine: the class actions of R132 to R145 and the dispatcher of R130. -/

namespace Sys2Proof.Machine

/-- `A_Start()` (R132). -/
def aStart (s : State) : State := setAck true (emitLoad s.cfg.pendingSla s)

/-- `A_AddrRx()` (R133). -/
def aAddrRx (s : State) : State := setAck true (setMode .slaveReceive s)

/-- `A_DataRx(D)` (R134). -/
def aDataRx (d : Byte) (s : State) : Except Fault State :=
  match intercepted s d with
  | some a => .ok (ackIfRoom (perform a s))
  | none =>
    match push d s with
    | .ok (ok, t) => .ok (setAck ok t)
    | .error f => .error f

/-- `A_DataNackRx()` (R135). -/
def aDataNackRx (s : State) : State := setAck false s

/-- `A_StopRx()` (R137). -/
def aStopRx (s : State) : Except Fault State :=
  match terminate s with
  | .ok t => .ok (setMode .ready (stopSeq t))
  | .error f => .error f

/-- `A_SendNext()` (R139). -/
def aSendNext (s : State) : Except Fault State :=
  if s.txIdx < s.txLen then
    match memRead .tx s.txIdx s with
    | .ok b => .ok (ackIfStaged { emitLoad b s with txIdx := s.txIdx + 1 })
    | .error f => .error f
  else .ok (setAck false (emitLoad txFill s))

/-- The default payload of R138: synthesized when nothing is staged. -/
def stageDefault (s : State) : Except Fault State :=
  if s.txLen = 0 then
    match memWrite .tx 0 defaultTxByte s with
    | .ok t => .ok { t with txLen := 1 }
    | .error f => .error f
  else .ok s

/-- `A_AddrTx()` (R138): the mode, the cursor, the default payload, then the first byte in the same event. -/
def aAddrTx (s : State) : Except Fault State :=
  match stageDefault { setMode .slaveTransmit s with txIdx := 0 } with
  | .ok t => aSendNext t
  | .error f => .error f

/-- `A_TxDone()` (R140). -/
def aTxDone (s : State) : State := setMode .ready (setAck true s)

/-- `A_NoInfo()` (R141): "no-op". -/
def aNoInfo (s : State) : State := s

/-- `A_BusError(code)` (R142). -/
def aBusError (code : Byte) (s : State) : State := recoverFromBusError code s

/-- `A_MasterDefensive()` (R143). -/
def aMasterDefensive (s : State) : State := setMode .ready (stopSeq s)

/-- `A_MasterArbLost()` (R144). -/
def aMasterArbLost (s : State) : State := setMode .ready (setAck true s)

/-- `A_Unknown(code)` (R145): "the same as `A_BusError(code)` of rule R142, latching the unknown code itself". -/
def aUnknown (code : Byte) (s : State) : State := recoverFromBusError code s

/-- The `case class of` of R130. -/
def classAction (c : StatusClass) (code d : Byte) (s : State) : Except Fault State :=
  match c with
  | .start => .ok (aStart s)
  | .addrRx => .ok (aAddrRx s)
  | .dataRx => aDataRx d s
  | .dataNackRx => .ok (aDataNackRx s)
  | .stopRx => aStopRx s
  | .addrTx => aAddrTx s
  | .sendNext => aSendNext s
  | .txDone => .ok (aTxDone s)
  | .noInfo => .ok (aNoInfo s)
  | .busError => .ok (aBusError code s)
  | .masterDefensive => .ok (aMasterDefensive s)
  | .masterArbLost => .ok (aMasterArbLost s)
  | .unknown => .ok (aUnknown code s)

/-- The hand-back of R130: `RELEASE` at the end of every event but one of class `NoInfo`. -/
def handBack (c : StatusClass) (s : State) : State :=
  match c with
  | .noInfo => s
  | _ => emitRelease s

/-- The body of one handler invocation: the class action, then the hand-back (R130, R231). -/
def handlerBody (c : StatusClass) (code d : Byte) (s : State) : Except Fault State :=
  match classAction c code d s with
  | .ok t => .ok (handBack c t)
  | .error f => .error f

/-- `EV(S, D)` for a code of class `c` (R130). -/
def busEvent (c : StatusClass) (code d : Byte) (s : State) : Host.Outcome State Fault Refusal :=
  enterHandler (handlerBody c code d) s

end Sys2Proof.Machine
end

