-- ==== Sys2Proof/Machine/BusEvents.lean ====
section
/-! DEFINITION. The 32 status codes (R146 to R173): each is its class action of Machine/Handler.lean. -/

namespace Sys2Proof.Machine

/-- `BUS_ERROR` (R172): `A_BusError(0x00)`, then `RELEASE`. -/
def execEvBusError (s : State) : Host.Outcome State Fault Refusal :=
  busEvent .busError 0x00 0 s

/-- `START` (R146): `A_Start()`, then `RELEASE`. -/
def execEvStart (s : State) : Host.Outcome State Fault Refusal :=
  busEvent .start 0x08 0 s

/-- `REP_START` (R147): `A_Start()`, then `RELEASE`. -/
def execEvRepStart (s : State) : Host.Outcome State Fault Refusal :=
  busEvent .start 0x10 0 s

/-- `MT_SLA_ACK` (R148): `A_MasterDefensive()`, then `RELEASE`. -/
def execEvMtSlaAck (s : State) : Host.Outcome State Fault Refusal :=
  busEvent .masterDefensive 0x18 0 s

/-- `MT_SLA_NACK` (R149): `A_MasterDefensive()`, then `RELEASE`. -/
def execEvMtSlaNack (s : State) : Host.Outcome State Fault Refusal :=
  busEvent .masterDefensive 0x20 0 s

/-- `MT_DATA_ACK` (R150): `A_MasterDefensive()`, then `RELEASE`. -/
def execEvMtDataAck (s : State) : Host.Outcome State Fault Refusal :=
  busEvent .masterDefensive 0x28 0 s

/-- `MT_DATA_NACK` (R151): `A_MasterDefensive()`, then `RELEASE`. -/
def execEvMtDataNack (s : State) : Host.Outcome State Fault Refusal :=
  busEvent .masterDefensive 0x30 0 s

/-- `ARB_LOST` (R152): `A_MasterArbLost()`, then `RELEASE`. -/
def execEvArbLost (s : State) : Host.Outcome State Fault Refusal :=
  busEvent .masterArbLost 0x38 0 s

/-- `MR_SLA_ACK` (R153): `A_MasterDefensive()`, then `RELEASE`. -/
def execEvMrSlaAck (s : State) : Host.Outcome State Fault Refusal :=
  busEvent .masterDefensive 0x40 0 s

/-- `MR_SLA_NACK` (R154): `A_MasterDefensive()`, then `RELEASE`. -/
def execEvMrSlaNack (s : State) : Host.Outcome State Fault Refusal :=
  busEvent .masterDefensive 0x48 0 s

/-- `MR_DATA_ACK` (R155): `A_MasterDefensive()`, then `RELEASE`. -/
def execEvMrDataAck (s : State) : Host.Outcome State Fault Refusal :=
  busEvent .masterDefensive 0x50 0 s

/-- `MR_DATA_NACK` (R156): `A_MasterDefensive()`, then `RELEASE`. -/
def execEvMrDataNack (s : State) : Host.Outcome State Fault Refusal :=
  busEvent .masterDefensive 0x58 0 s

/-- `SR_SLA_ACK` (R157): `A_AddrRx()`, then `RELEASE`. -/
def execEvSrSlaAck (s : State) : Host.Outcome State Fault Refusal :=
  busEvent .addrRx 0x60 0 s

/-- `SR_ARB_LOST_SLA_ACK` (R158): `A_AddrRx()`, then `RELEASE`. -/
def execEvSrArbLostSlaAck (s : State) : Host.Outcome State Fault Refusal :=
  busEvent .addrRx 0x68 0 s

/-- `SR_GCALL_ACK` (R159): `A_AddrRx()`, then `RELEASE`. -/
def execEvSrGcallAck (s : State) : Host.Outcome State Fault Refusal :=
  busEvent .addrRx 0x70 0 s

/-- `SR_ARB_LOST_GCALL_ACK` (R160): `A_AddrRx()`, then `RELEASE`. -/
def execEvSrArbLostGcallAck (s : State) : Host.Outcome State Fault Refusal :=
  busEvent .addrRx 0x78 0 s

/-- `SR_DATA_ACK` (R161): `A_DataRx(D)`, then `RELEASE`. -/
def execEvSrDataAck (d : Byte) (s : State) : Host.Outcome State Fault Refusal :=
  busEvent .dataRx 0x80 d s

/-- `SR_DATA_NACK` (R162): `A_DataNackRx()`, then `RELEASE`. -/
def execEvSrDataNack (s : State) : Host.Outcome State Fault Refusal :=
  busEvent .dataNackRx 0x88 0 s

/-- `SR_GCALL_DATA_ACK` (R163): `A_DataRx(D)`, then `RELEASE`. -/
def execEvSrGcallDataAck (d : Byte) (s : State) : Host.Outcome State Fault Refusal :=
  busEvent .dataRx 0x90 d s

/-- `SR_GCALL_DATA_NACK` (R164): `A_DataNackRx()`, then `RELEASE`. -/
def execEvSrGcallDataNack (s : State) : Host.Outcome State Fault Refusal :=
  busEvent .dataNackRx 0x98 0 s

/-- `SR_STOP` (R165): `A_StopRx()`, then `RELEASE`. -/
def execEvSrStop (s : State) : Host.Outcome State Fault Refusal :=
  busEvent .stopRx 0xA0 0 s

/-- `ST_SLA_ACK` (R166): `A_AddrTx()`, then `RELEASE`. -/
def execEvStSlaAck (s : State) : Host.Outcome State Fault Refusal :=
  busEvent .addrTx 0xA8 0 s

/-- `ST_ARB_LOST_SLA_ACK` (R167): `A_AddrTx()`, then `RELEASE`. -/
def execEvStArbLostSlaAck (s : State) : Host.Outcome State Fault Refusal :=
  busEvent .addrTx 0xB0 0 s

/-- `ST_DATA_ACK` (R168): `A_SendNext()`, then `RELEASE`. -/
def execEvStDataAck (s : State) : Host.Outcome State Fault Refusal :=
  busEvent .sendNext 0xB8 0 s

/-- `ST_DATA_NACK` (R169): `A_TxDone()`, then `RELEASE`. -/
def execEvStDataNack (s : State) : Host.Outcome State Fault Refusal :=
  busEvent .txDone 0xC0 0 s

/-- `ST_LAST_DATA` (R170): `A_TxDone()`, then `RELEASE`. -/
def execEvStLastData (s : State) : Host.Outcome State Fault Refusal :=
  busEvent .txDone 0xC8 0 s

/-- `UNKNOWN_D0` (R173): `A_Unknown(code)`, then `RELEASE`. -/
def execEvUnknownD0 (s : State) : Host.Outcome State Fault Refusal :=
  busEvent .unknown 0xD0 0 s

/-- `UNKNOWN_D8` (R173): `A_Unknown(code)`, then `RELEASE`. -/
def execEvUnknownD8 (s : State) : Host.Outcome State Fault Refusal :=
  busEvent .unknown 0xD8 0 s

/-- `UNKNOWN_E0` (R173): `A_Unknown(code)`, then `RELEASE`. -/
def execEvUnknownE0 (s : State) : Host.Outcome State Fault Refusal :=
  busEvent .unknown 0xE0 0 s

/-- `UNKNOWN_E8` (R173): `A_Unknown(code)`, then `RELEASE`. -/
def execEvUnknownE8 (s : State) : Host.Outcome State Fault Refusal :=
  busEvent .unknown 0xE8 0 s

/-- `UNKNOWN_F0` (R173): `A_Unknown(code)`, then `RELEASE`. -/
def execEvUnknownF0 (s : State) : Host.Outcome State Fault Refusal :=
  busEvent .unknown 0xF0 0 s

/-- `NO_INFO` (R171): `A_NoInfo()`; no `RELEASE`. -/
def execEvNoInfo (s : State) : Host.Outcome State Fault Refusal :=
  busEvent .noInfo 0xF8 0 s

end Sys2Proof.Machine
end

