-- ==== Sys2Proof/Machine/Foreground.lean ====
section
/-! DEFINITION. The bus controller: the foreground operations (R191 to R198) and the step that ends `force_stop`'s wait. -/

namespace Sys2Proof.Machine

/-- The register writes of `INIT(addr)` (R194); storage, `STOP_PENDING`, the request flags and `FG_STATE` keep their values. -/
def initRegisters (addr : BitVec 7) (s : State) : State :=
  { s with
    mode := .ready
    rxHead := 0
    rxTail := 0
    rxMark := 0
    txIdx := 0
    txLen := 0
    ackEn := true
    irqEn := true
    busEn := true
    ownAddr := addr
    errLatch := errNone }

/-- The marker of R200: "mid-transaction" is `MODE != Ready` when the `INIT` step runs. -/
def markMidTransaction (s : State) : State :=
  match s.mode with
  | .ready => s
  | .slaveReceive => raiseModelFault .initMidTransaction s
  | .slaveTransmit => raiseModelFault .initMidTransaction s

/-- `INIT(addr)`: the update happens also mid-transaction (R194, R200). -/
def initOp (addr : BitVec 7) (s : State) : Except Fault State :=
  .ok (giveResult .done (initRegisters addr (markMidTransaction s)))

/-- `INIT` (R194, R200). -/
def execFgInit (addr : BitVec 7) (s : State) : Host.Outcome State Fault Refusal := foregroundOp (initOp addr) s

/-- `READ()` (R191): a `pop`; an empty ring is a full drain and sets the rewind mark. -/
def readOp (s : State) : Except Fault State :=
  match pop s with
  | .ok (some b, t) => .ok (giveResult (.read (some b)) t)
  | .ok (none, t) => .ok (giveResult (.read none) { t with rxMark := t.rxTail })
  | .error f => .error f

/-- `READ` (R191). -/
def execFgRead (s : State) : Host.Outcome State Fault Refusal := foregroundOp readOp s

/-- `RESET_READ_CURSOR()`: `rewind()` (R192). -/
def resetReadCursorOp (s : State) : Except Fault State := .ok (giveResult .done (rewind s))

/-- `RESET_READ_CURSOR` (R192). -/
def execFgResetReadCursor (s : State) : Host.Outcome State Fault Refusal := foregroundOp resetReadCursorOp s

/-- `TRANSMIT(length, bytes)` (R193): `TooLarge` is checked first (R222), then `WrongMode` (R223); on success the copy and the
length, `TX_IDX` unchanged. -/
def transmitOp (length : Nat) (bytes : List Byte) (s : State) : Except Fault State :=
  if s.cfg.nTx < length then .ok (giveResult (.transmitErr .tooLarge) s)
  else
    match s.mode with
    | .ready => .ok (giveResult (.transmitErr .wrongMode) s)
    | .slaveReceive => .ok (giveResult (.transmitErr .wrongMode) s)
    | .slaveTransmit =>
      match copyToTx 0 (payload s.draws length bytes) s with
      | .ok t => .ok (giveResult .transmitOk { t with txLen := length, draws := t.draws + payloadDraws length bytes })
      | .error f => .error f

/-- `TRANSMIT` (R193). -/
def execFgTransmit (length : Nat) (bytes : List Byte) (s : State) : Host.Outcome State Fault Refusal :=
  foregroundOp (transmitOp length bytes) s

/-- `FORCE_STOP()`: the stop sequence, then the wait; `MODE` is not changed until `FGRESUME`, which delivers the result
(R195). -/
def forceStopOp (s : State) : Except Fault State := .ok { stopSeq s with fgState := .waitStop }

/-- `FORCE_STOP` (R195). -/
def execFgForceStop (s : State) : Host.Outcome State Fault Refusal := foregroundOp forceStopOp s

/-- `RELEASE_BUS()` (R196). -/
def releaseBusOp (s : State) : Except Fault State :=
  .ok (giveResult .done (emitRelease { s with ackEn := true, irqEn := true }))

/-- `RELEASE_BUS` (R196). -/
def execFgReleaseBus (s : State) : Host.Outcome State Fault Refusal := foregroundOp releaseBusOp s

/-- `CLEAR_ERROR()` (R198). -/
def clearErrorOp (s : State) : Except Fault State := .ok (giveResult .done { s with errLatch := errNone })

/-- `CLEAR_ERROR` (R198). -/
def execFgClearError (s : State) : Host.Outcome State Fault Refusal := foregroundOp clearErrorOp s

/-- `FGRESUME` (R197): enabled when `FG_STATE = WaitStop` and `STOP_PENDING = 0`; `force_stop`'s result is delivered here
(R199). -/
def execFgResume (s : State) : Host.Outcome State Fault Refusal :=
  match s.fgState, s.stopPending with
  | .waitStop, false => .next (giveResult .done { setMode .ready (beginStep s) with fgState := .idle })
  | .waitStop, true => .refused .resumeNotEnabled
  | .idle, _ => .refused .resumeNotEnabled

end Sys2Proof.Machine
end

