-- ==== Sys2Proof/Machine/Dispatch.lean ====
section
/-! DEFINITION. The dispatch: one arm per instruction, each one call of its meaning. -/

namespace Sys2Proof.Machine

def exec (i : Instr) (s : State) : Host.Outcome State Fault Refusal :=
  match i with
  | .evBusError => Sys2Proof.Machine.execEvBusError s
  | .evStart => Sys2Proof.Machine.execEvStart s
  | .evRepStart => Sys2Proof.Machine.execEvRepStart s
  | .evMtSlaAck => Sys2Proof.Machine.execEvMtSlaAck s
  | .evMtSlaNack => Sys2Proof.Machine.execEvMtSlaNack s
  | .evMtDataAck => Sys2Proof.Machine.execEvMtDataAck s
  | .evMtDataNack => Sys2Proof.Machine.execEvMtDataNack s
  | .evArbLost => Sys2Proof.Machine.execEvArbLost s
  | .evMrSlaAck => Sys2Proof.Machine.execEvMrSlaAck s
  | .evMrSlaNack => Sys2Proof.Machine.execEvMrSlaNack s
  | .evMrDataAck => Sys2Proof.Machine.execEvMrDataAck s
  | .evMrDataNack => Sys2Proof.Machine.execEvMrDataNack s
  | .evSrSlaAck => Sys2Proof.Machine.execEvSrSlaAck s
  | .evSrArbLostSlaAck => Sys2Proof.Machine.execEvSrArbLostSlaAck s
  | .evSrGcallAck => Sys2Proof.Machine.execEvSrGcallAck s
  | .evSrArbLostGcallAck => Sys2Proof.Machine.execEvSrArbLostGcallAck s
  | .evSrDataAck d => Sys2Proof.Machine.execEvSrDataAck d s
  | .evSrDataNack => Sys2Proof.Machine.execEvSrDataNack s
  | .evSrGcallDataAck d => Sys2Proof.Machine.execEvSrGcallDataAck d s
  | .evSrGcallDataNack => Sys2Proof.Machine.execEvSrGcallDataNack s
  | .evSrStop => Sys2Proof.Machine.execEvSrStop s
  | .evStSlaAck => Sys2Proof.Machine.execEvStSlaAck s
  | .evStArbLostSlaAck => Sys2Proof.Machine.execEvStArbLostSlaAck s
  | .evStDataAck => Sys2Proof.Machine.execEvStDataAck s
  | .evStDataNack => Sys2Proof.Machine.execEvStDataNack s
  | .evStLastData => Sys2Proof.Machine.execEvStLastData s
  | .evUnknownD0 => Sys2Proof.Machine.execEvUnknownD0 s
  | .evUnknownD8 => Sys2Proof.Machine.execEvUnknownD8 s
  | .evUnknownE0 => Sys2Proof.Machine.execEvUnknownE0 s
  | .evUnknownE8 => Sys2Proof.Machine.execEvUnknownE8 s
  | .evUnknownF0 => Sys2Proof.Machine.execEvUnknownF0 s
  | .evNoInfo => Sys2Proof.Machine.execEvNoInfo s
  | .fgInit addr => Sys2Proof.Machine.execFgInit addr s
  | .fgRead => Sys2Proof.Machine.execFgRead s
  | .fgResetReadCursor => Sys2Proof.Machine.execFgResetReadCursor s
  | .fgTransmit length bytes => Sys2Proof.Machine.execFgTransmit length bytes s
  | .fgForceStop => Sys2Proof.Machine.execFgForceStop s
  | .fgReleaseBus => Sys2Proof.Machine.execFgReleaseBus s
  | .fgClearError => Sys2Proof.Machine.execFgClearError s
  | .fgResume => Sys2Proof.Machine.execFgResume s
  | .busStopdone => Sys2Proof.Machine.execBusStopdone s
  | .collabClrStatus => Sys2Proof.Machine.execCollabClrStatus s
  | .collabClrCycle => Sys2Proof.Machine.execCollabClrCycle s
  | .collabClrHold => Sys2Proof.Machine.execCollabClrHold s

end Sys2Proof.Machine
end

