-- ==== Sys2Proof/Machine/Step.lean ====
section
/-! DEFINITION. One step: take the next request, decode it, run its instruction. -/

namespace Sys2Proof.Machine

/-- One step of a run (R11). A configuration that breaks R9 is refused; so is a step when no agent presents a request. -/
def step (s : State) : Host.Outcome State Fault Refusal :=
  if s.cfg.wf then
    match takeRequest s with
    | none => .refused .noRequest
    | some (r, t) =>
      match decode r with
      | .ok i => exec i t
      | .error e => .refused (.undecodable e)
  else .refused .badConfiguration

/-- The host's placing of one word of the opcode table as the next request, with its step enabled (log entries 8 and 9). -/
def State.withFetchWord (s : State) (nbits w : Nat) : State :=
  match tableRequest nbits w with
  | some r => placeRequest r s
  | none => s

end Sys2Proof.Machine
end

