-- ==== Sys2Proof/Safety.lean ====
section
/-! DEFINITION. What the claims are stated in: the kinds of step and when each is enabled (R11), the invariant of the block's
state, the contents of the receive ring as a queue, and a sequence of steps. -/

namespace Sys2Proof.Machine

/-- The rows of R11's table. -/
inductive StepKind where
  | event
  | stopDone
  | foreground
  | resume
  | clear
deriving DecidableEq, Repr

/-- The row of R11's table an instruction belongs to. -/
def stepKind : Instr → StepKind
  | .evBusError | .evStart | .evRepStart | .evMtSlaAck | .evMtSlaNack | .evMtDataAck | .evMtDataNack | .evArbLost => .event
  | .evMrSlaAck | .evMrSlaNack | .evMrDataAck | .evMrDataNack | .evSrSlaAck | .evSrArbLostSlaAck => .event
  | .evSrGcallAck | .evSrArbLostGcallAck | .evSrDataAck _ | .evSrDataNack | .evSrGcallDataAck _ => .event
  | .evSrGcallDataNack | .evSrStop | .evStSlaAck | .evStArbLostSlaAck | .evStDataAck | .evStDataNack => .event
  | .evStLastData | .evUnknownD0 | .evUnknownD8 | .evUnknownE0 | .evUnknownE8 | .evUnknownF0 | .evNoInfo => .event
  | .fgInit _ | .fgRead | .fgResetReadCursor | .fgTransmit _ _ | .fgForceStop | .fgReleaseBus | .fgClearError => .foreground
  | .fgResume => .resume
  | .busStopdone => .stopDone
  | .collabClrStatus | .collabClrCycle | .collabClrHold => .clear

/-- The "enabled when" column of R11. -/
def enabled (k : StepKind) (s : State) : Bool :=
  match k with
  | .event => s.busEn && s.irqEn
  | .stopDone => s.stopPending
  | .foreground => decide (s.fgState = .idle)
  | .resume => decide (s.fgState = .waitStop) && !s.stopPending
  | .clear => true

/-- The refusal that answers a step of a kind when it is not enabled. A clear is always enabled. -/
def disabledRefusal : StepKind → Option Refusal
  | .event => some .eventNotEnabled
  | .stopDone => some .stopDoneNotEnabled
  | .foreground => some .foregroundBusy
  | .resume => some .resumeNotEnabled
  | .clear => none

/-- How many slots lie from index `i` up to `RX_HEAD`, modulo `N_RX`: `rx_count` of R57 with `i` for `RX_TAIL`. -/
def slotsFrom (i : Nat) (s : State) : Nat := (s.rxHead + s.cfg.nRx - i) % s.cfg.nRx

/-- Every slot from index `i` up to `RX_HEAD` has been written since power-on (R54). -/
abbrev WrittenFrom (i : Nat) (s : State) : Prop :=
  ∀ k, k < slotsFrom i s → (Memory.read? s.rxBuf ((i + k) % s.cfg.nRx)).isSome = true

/-- The index ranges of R23, R24, R25, R27 and R28. -/
abbrev IndicesInRange (s : State) : Prop :=
  s.rxHead < s.cfg.nRx ∧ s.rxTail < s.cfg.nRx ∧ s.rxMark < s.cfg.nRx ∧ s.txLen ≤ s.cfg.nTx ∧ s.txIdx ≤ s.cfg.nTx

/-- Both storage lists are canonical and hold existing indices only (R51). -/
abbrev StorageOk (s : State) : Prop :=
  Memory.wf s.rxBuf = true ∧ Memory.wf s.txBuf = true ∧
  (∀ c ∈ s.rxBuf, c.1 < s.cfg.nRx) ∧ (∀ c ∈ s.txBuf, c.1 < s.cfg.nTx)

/-- The bytes the rules read have been written (R54): the unread bytes, those a rewind makes unread again, and the staged
payload. -/
abbrev ReadableWritten (s : State) : Prop :=
  WrittenFrom s.rxTail s ∧ WrittenFrom s.rxMark s ∧ (∀ i, i < s.txLen → (Memory.read? s.txBuf i).isSome = true)

/-- The values `ERR_LATCH` reaches (R91): `ERR_NONE`, the bus-error code and the five unknown codes. -/
def legalErrLatch : List Byte := [0xFF, 0x00, 0xD0, 0xD8, 0xE0, 0xE8, 0xF0]

/-- The invariant of the block: the parameters meet R9, indices and storage are in range, what can be read has been written,
`ERR_LATCH` holds a reachable value (R91), `START_REQ` is inactive (R40), and `MODEL_FAULT` is a set (R42). -/
abbrev State.Inv (s : State) : Prop :=
  s.cfg.wf = true ∧ IndicesInRange s ∧ StorageOk s ∧ ReadableWritten s ∧ s.errLatch ∈ legalErrLatch ∧
  s.out.startReq = false ∧ s.modelFault.Nodup

/-- Before `initialize` has set the enables the block is inert on the bus (R242): while `BUS_EN = 0` the mode is `Ready`, the
ring is empty at index 0, nothing is staged, and no error or request is latched. Once `BUS_EN = 1`, `IRQ_EN = 1` (R30, R31). -/
abbrev State.InertUntilInit (s : State) : Prop :=
  (s.busEn = true → s.irqEn = true) ∧
  (s.busEn = false → s.mode = .ready ∧ s.rxHead = 0 ∧ s.rxTail = 0 ∧ s.rxMark = 0 ∧ s.txLen = 0 ∧ s.txIdx = 0 ∧
    s.errLatch = errNone ∧ s.reqStatus = false ∧ s.reqCycle = false ∧ s.reqHold = false ∧ s.modelFault = [])

/-- A run with no undefined behaviour: `MODEL_FAULT` stays empty (R200). -/
abbrev State.WellBehaved (s : State) : Prop := s.modelFault = []

/-- The unread bytes of the receive ring, oldest first: the bytes `read` returns (R55, R56). -/
def unread (s : State) : List Byte :=
  (List.range (rxCount s)).map (fun k => byteAt .rx ((s.rxTail + k) % s.cfg.nRx) s)

/-- A sequence of instructions taken one after the other, stopping at the first fault or refusal. -/
def runAll : List Instr → State → Host.Outcome State Fault Refusal
  | [], s => .next s
  | i :: rest, s =>
    match exec i s with
    | .next t => runAll rest t
    | .fault f => .fault f
    | .refused r => .refused r

/-- Where an instruction stores into the receive storage: a payload byte at `RX_HEAD` if there is room (R55, R134), the
terminator at `RX_TAIL` if there is room (R58, R137); the others store nothing there (R38). -/
def storedRx (i : Instr) (s : State) : Option Nat :=
  match i with
  | .evSrDataAck d | .evSrGcallDataAck d =>
    if (intercepted s d).isSome || rxFull s then none else some s.rxHead
  | .evSrStop => if rxFull s then none else some s.rxTail
  | _ => none

/-- How many bytes, from index 0, an instruction stores into the transmit storage: the default payload's one byte when
nothing is staged (R138), the payload of an accepted `TRANSMIT` (R193); the others store nothing there (R38). -/
def storedTx (i : Instr) (s : State) : Nat :=
  match i with
  | .evStSlaAck | .evStArbLostSlaAck => if s.txLen = 0 then 1 else 0
  | .fgTransmit length _ => if length ≤ s.cfg.nTx ∧ s.mode = .slaveTransmit then length else 0
  | _ => 0

/-- An outcome without the registers that only the bus peripheral or a diagnostic reader looks at: `ERR_LATCH` (R34) and
`OWN_ADDR` (R33). -/
def forgetDiagnostics (o : Host.Outcome State Fault Refusal) : Host.Outcome State Fault Refusal :=
  match o with
  | .next t => .next { t with errLatch := 0, ownAddr := 0 }
  | .fault f => .fault f
  | .refused r => .refused r

/-- A step of a consumer that peeks: a `READ`, or a data byte arriving from the bus, by own address or by general call. -/
inductive PeekStep where
  | read
  | arrive (d : Byte)
  | arriveByGeneralCall (d : Byte)
deriving DecidableEq, Repr

/-- The instruction of a peek step. -/
def PeekStep.instr : PeekStep → Instr
  | .read => .fgRead
  | .arrive d => .evSrDataAck d
  | .arriveByGeneralCall d => .evSrGcallDataAck d

/-- The byte a peek step brings in. -/
def PeekStep.byte? : PeekStep → Option Byte
  | .read => none
  | .arrive d => some d
  | .arriveByGeneralCall d => some d

/-- No `READ` of the list finds the ring empty, when `n` bytes are unread before it: no full drain (R191) happens in it. -/
def noFullDrain : Nat → List PeekStep → Bool
  | _, [] => true
  | n, .read :: rest => decide (0 < n) && noFullDrain (n - 1) rest
  | n, .arrive _ :: rest => noFullDrain (n + 1) rest
  | n, .arriveByGeneralCall _ :: rest => noFullDrain (n + 1) rest

end Sys2Proof.Machine
end

