-- ==== Sys2Proof/Certificates/Slice0/Obligations.lean ====
section
/-! DEFINITION. The statements for the provers. Each docstring names the rule it formalises. The right-hand sides write the
registers' new values out as record updates, so every field that is not named is stated to keep its value. `result := .done`
is how the model writes the completion of an operation whose result is "none" in R93 (log entry 7). -/

open Sys2Proof Sys2Proof.Machine

/-! ### Encoding -/

/-- R81: the decoder reads only `S[7:3]`, and every value of `S` decodes. -/
def Obligations.DecodeIgnoresLowStatusBits : Prop :=
  (∀ S D : Byte, ∃ i, decode (.event S D) = .ok i) ∧
  (∀ S T D : Byte, S &&& 0xF8 = T &&& 0xF8 → decode (.event S D) = decode (.event T D))

/-- R86: only the `DataRx` codes 0x80 and 0x90 read `D`. -/
def Obligations.DecodeIgnoresUnreadData : Prop :=
  (∀ S D E : Byte, S &&& 0xF8 ≠ 0x80 → S &&& 0xF8 ≠ 0x90 → decode (.event S D) = decode (.event S E)) ∧
  (∀ S D : Byte, S &&& 0xF8 = 0x80 → decode (.event S D) = .ok (.evSrDataAck D)) ∧
  (∀ S D : Byte, S &&& 0xF8 = 0x90 → decode (.event S D) = .ok (.evSrGcallDataAck D))

/-- Decoding an encoded well-formed instruction gives it back, every operand at every value (R83, R93, R95, R96). -/
def Obligations.DecodeEncodeRoundTrip : Prop :=
  ∀ i : Instr, i.wf = true → decode (encode i) = .ok i

/-- The other direction: a request whose unread fields are zero is the encoding of what it decodes to, and what a request
decodes to is well-formed (R83, R92, R96). The rejection of an ill-formed payload is the model's own (log entry 16). -/
def Obligations.CanonicalRequestIsEncoded : Prop :=
  ∀ (r : Request) (i : Instr), decode r = .ok i → i.wf = true ∧ (r.canonical = true → encode i = r)

/-- R94 and R95: op codes 0x7..0xF and `k = 3` spell no operation; the model refuses the request. -/
def Obligations.ReservedRequestsRefused : Prop :=
  (∀ (op : BitVec 4) (addr : BitVec 7) (length : Nat) (bytes : List Byte) (rest : List Request) (s : State),
    7 ≤ op.toNat → s.cfg.wf = true → s.inputs = .fg op addr length bytes :: rest →
    step s = .refused (.undecodable (.reservedOp op))) ∧
  (∀ (rest : List Request) (s : State), s.cfg.wf = true → s.inputs = .clr 3 :: rest →
    step s = .refused (.undecodable (.reservedClear 3)))

/-- A few words written from R83, R93 and R95. -/
def Obligations.DecodeSampleWords : Prop :=
  decode (.event 0b01100011 0) = .ok .evSrSlaAck ∧
  decode (.event 0b10000000 0x41) = .ok (.evSrDataAck 0x41) ∧
  decode (.event 0b11010011 0) = .ok .evUnknownD0 ∧
  decode (.event 0b11111111 0) = .ok .evNoInfo ∧
  decode (.fg 0b0000 0x08 0 []) = .ok (.fgInit 0x08) ∧
  decode (.fg 0b0011 0 2 [0xA1, 0xA2]) = .ok (.fgTransmit 2 [0xA1, 0xA2]) ∧
  decode (.clr 0b10) = .ok .collabClrHold

/-- The SLA byte's layout (R88). -/
def Obligations.SlaByteFields : Prop :=
  ∀ (addr : BitVec 7) (rw : BitVec 1),
    slaAddress (slaByte addr rw) = addr ∧ slaReadWrite (slaByte addr rw) = rw ∧
    (slaByte addr rw).toNat = 2 * addr.toNat + rw.toNat

/-! ### The step -/

/-- A step takes the first request the agents present and runs the instruction it decodes to, at the state without that
request; no instruction adds a request (R11; the list of requests is the model's, log entry 5). -/
def Obligations.StepRunsDecodedRequest : Prop :=
  ∀ (s : State) (r : Request) (rest : List Request) (i : Instr),
    s.cfg.wf = true → s.inputs = r :: rest → decode r = .ok i →
    step s = exec i { s with inputs := rest } ∧ ∀ t, step s = .next t → t.inputs = rest

/-- R9: a configuration that breaks a constraint is refused. -/
def Obligations.BadConfigurationRefused : Prop :=
  ∀ s : State,
    (s.cfg.nRx < 2 ∨ s.cfg.nTx < 1 ∨
      s.cfg.cmdStatusReport = s.cfg.cmdCycleStart ∨ s.cfg.cmdStatusReport = s.cfg.cmdFeedHold ∨
      s.cfg.cmdStatusReport = s.cfg.cmdReset ∨ s.cfg.cmdCycleStart = s.cfg.cmdFeedHold ∨
      s.cfg.cmdCycleStart = s.cfg.cmdReset ∨ s.cfg.cmdFeedHold = s.cfg.cmdReset) →
    step s = .refused .badConfiguration

/-- A step that its row of R11's table does not enable is refused by name (log entry 6). -/
def Obligations.DisabledStepRefused : Prop :=
  ∀ (i : Instr) (s : State) (r : Refusal),
    enabled (stepKind i) s = false → disabledRefusal (stepKind i) = some r → exec i s = .refused r

/-- In a state of the invariant every enabled step completes, and an event leaves `EV` enabled (R226). -/
def Obligations.EnabledStepCompletes : Prop :=
  ∀ (i : Instr) (s : State), s.Inv → enabled (stepKind i) s = true →
    ∃ t, exec i s = .next t ∧ (stepKind i = .event → enabled .event t = true)

/-- In a state of the invariant no step ends in a fault: no rule leaves the storage spaces (R51). -/
def Obligations.NoStepFaults : Prop :=
  ∀ (s : State) (f : Fault), s.Inv → step s ≠ .fault f

/-- An index outside its storage space names no byte (R51): the access faults (the model's answer, log entry 10). -/
def Obligations.IndexOutsideStorageFaults : Prop :=
  ∀ s : State,
    (s.fgState = .idle → s.rxHead ≠ s.rxTail → s.cfg.nRx ≤ s.rxTail →
      exec .fgRead s = .fault (.noSuchByte .rx s.rxTail)) ∧
    (s.busEn = true → s.irqEn = true →
      ((s.rxHead + 1) % s.cfg.nRx ≠ s.rxTail →
        (s.cfg.nRx ≤ s.rxTail → exec .evSrStop s = .fault (.noSuchByte .rx s.rxTail)) ∧
        (s.cfg.nRx ≤ s.rxHead → ∀ d, intercepted s d = none →
          exec (.evSrDataAck d) s = .fault (.noSuchByte .rx s.rxHead) ∧
          exec (.evSrGcallDataAck d) s = .fault (.noSuchByte .rx s.rxHead))) ∧
      (s.cfg.nTx = 0 →
        exec .evStSlaAck s = .fault (.noSuchByte .tx 0) ∧ exec .evStArbLostSlaAck s = .fault (.noSuchByte .tx 0)) ∧
      (s.txIdx < s.txLen → s.cfg.nTx ≤ s.txIdx → exec .evStDataAck s = .fault (.noSuchByte .tx s.txIdx)))

/-! ### The bus events -/

/-- R132, R146, R147. -/
def Obligations.StartCodesLoadPendingAddress : Prop :=
  ∀ i ∈ [Instr.evStart, .evRepStart], ∀ s : State, s.busEn = true → s.irqEn = true →
    exec i s = .next { s with
      ackEn := true
      out := { Outputs.quiet with load := some s.cfg.pendingSla, release := true } }

/-- R133, R157, R158, R159, R160. -/
def Obligations.AddressedAsReceiver : Prop :=
  ∀ i ∈ [Instr.evSrSlaAck, .evSrArbLostSlaAck, .evSrGcallAck, .evSrArbLostGcallAck], ∀ s : State,
    s.busEn = true → s.irqEn = true →
    exec i s = .next { s with
      mode := .slaveReceive
      ackEn := true
      out := { Outputs.quiet with release := true } }

/-- R134, R161, R163: a command is performed and acknowledged unless the ring is full; any other byte is pushed, and
acknowledged if there was room. -/
def Obligations.DataByteReceived : Prop :=
  ∀ d : Byte, ∀ i ∈ [Instr.evSrDataAck d, .evSrGcallDataAck d], ∀ s : State, s.busEn = true → s.irqEn = true →
    (∀ a, s.mode = .slaveReceive → intercept s.cfg d = some a →
      exec i s = .next { perform a s with
        ackEn := !((s.rxHead + 1) % s.cfg.nRx == s.rxTail)
        out := { (perform a { s with out := Outputs.quiet }).out with release := true } }) ∧
    ((s.mode = .slaveReceive → intercept s.cfg d = none) →
      ((s.rxHead + 1) % s.cfg.nRx = s.rxTail →
        exec i s = .next { s with ackEn := false, out := { Outputs.quiet with release := true } }) ∧
      ((s.rxHead + 1) % s.cfg.nRx ≠ s.rxTail → s.rxHead < s.cfg.nRx →
        exec i s = .next { s with
          rxBuf := Memory.write s.rxHead d s.rxBuf
          rxHead := (s.rxHead + 1) % s.cfg.nRx
          ackEn := true
          out := { Outputs.quiet with release := true } }))

/-- R112, R113, R114, R119, and the call of R115: what each command byte does in `SlaveReceive`; the ring is unchanged. -/
def Obligations.CommandBytePerformed : Prop :=
  ∀ d : Byte, ∀ i ∈ [Instr.evSrDataAck d, .evSrGcallDataAck d], ∀ s : State,
    s.busEn = true → s.irqEn = true → s.cfg.wf = true → s.mode = .slaveReceive →
    (d = s.cfg.cmdStatusReport → exec i s = .next { s with
      reqStatus := true
      ackEn := !rxFull s
      out := { Outputs.quiet with release := true } }) ∧
    (d = s.cfg.cmdCycleStart → exec i s = .next { s with
      reqCycle := true
      ackEn := !rxFull s
      out := { Outputs.quiet with release := true } }) ∧
    (d = s.cfg.cmdFeedHold → exec i s = .next { s with
      reqHold := true
      ackEn := !rxFull s
      out := { Outputs.quiet with release := true } }) ∧
    (d = s.cfg.cmdReset → exec i s = .next { s with
      ackEn := !rxFull s
      out := { Outputs.quiet with release := true, resetCall := true } })

/-- R110: the comparator, for the pairwise distinct command bytes of R9. -/
def Obligations.InterceptMatchesReservedBytes : Prop :=
  ∀ (p : Config.Params) (b : Byte), p.wf = true →
    (intercept p b = some .requestStatusReport ↔ b = p.cmdStatusReport) ∧
    (intercept p b = some .requestCycleStart ↔ b = p.cmdCycleStart) ∧
    (intercept p b = some .requestFeedHold ↔ b = p.cmdFeedHold) ∧
    (intercept p b = some .requestReset ↔ b = p.cmdReset) ∧
    (intercept p b = none ↔
      b ≠ p.cmdStatusReport ∧ b ≠ p.cmdCycleStart ∧ b ≠ p.cmdFeedHold ∧ b ≠ p.cmdReset)

/-- R111: outside `SlaveReceive` a command value is not acted on and is pushed as payload. -/
def Obligations.CommandValueOutsideReceiveIsPayload : Prop :=
  ∀ d : Byte, ∀ i ∈ [Instr.evSrDataAck d, .evSrGcallDataAck d], ∀ s : State,
    s.busEn = true → s.irqEn = true → s.mode ≠ .slaveReceive → s.rxHead < s.cfg.nRx → rxFull s = false →
    ∃ t, exec i s = .next t ∧ Memory.read? t.rxBuf s.rxHead = some d ∧
      (∀ a, a ≠ s.rxHead → Memory.read? t.rxBuf a = Memory.read? s.rxBuf a) ∧
      t.reqStatus = s.reqStatus ∧ t.reqCycle = s.reqCycle ∧ t.reqHold = s.reqHold ∧ t.out.resetCall = false

/-- R135, R162, R164: the byte is discarded and the acknowledge withheld again. -/
def Obligations.RefusedDataByteDiscarded : Prop :=
  ∀ i ∈ [Instr.evSrDataNack, .evSrGcallDataNack], ∀ s : State, s.busEn = true → s.irqEn = true →
    exec i s = .next { s with ackEn := false, out := { Outputs.quiet with release := true } }

/-- R137, R165: the terminator at the read index if there is room, the stop sequence, and `Ready`. -/
def Obligations.StopWhileReceiving : Prop :=
  ∀ s : State, s.busEn = true → s.irqEn = true →
    ((s.rxHead + 1) % s.cfg.nRx = s.rxTail → exec .evSrStop s = .next { s with
      stopPending := true
      ackEn := true
      mode := .ready
      out := { Outputs.quiet with stopReq := true, release := true } }) ∧
    ((s.rxHead + 1) % s.cfg.nRx ≠ s.rxTail → s.rxTail < s.cfg.nRx → exec .evSrStop s = .next { s with
      rxBuf := Memory.write s.rxTail 0x00 s.rxBuf
      stopPending := true
      ackEn := true
      mode := .ready
      out := { Outputs.quiet with stopReq := true, release := true } })

/-- R138, R166, R167: the first staged byte, or the synthesized default payload, is sent in the addressing event. -/
def Obligations.AddressedAsTransmitter : Prop :=
  ∀ i ∈ [Instr.evStSlaAck, .evStArbLostSlaAck], ∀ s : State,
    s.busEn = true → s.irqEn = true → 1 ≤ s.cfg.nTx →
    (s.txLen = 0 → exec i s = .next { s with
      mode := .slaveTransmit
      txBuf := Memory.write 0 0x00 s.txBuf
      txLen := 1
      txIdx := 1
      ackEn := false
      out := { Outputs.quiet with load := some 0x00, release := true } }) ∧
    (1 ≤ s.txLen → exec i s = .next { s with
      mode := .slaveTransmit
      txIdx := 1
      ackEn := decide (1 < s.txLen)
      out := { Outputs.quiet with load := some (byteAt .tx 0 s), release := true } })

/-- R139, R168: the next staged byte, or the fill byte past the staged length; `MODE` is neither tested nor written. -/
def Obligations.TransmittedByteAcknowledged : Prop :=
  ∀ s : State, s.busEn = true → s.irqEn = true →
    (s.txIdx < s.txLen → s.txIdx < s.cfg.nTx → exec .evStDataAck s = .next { s with
      txIdx := s.txIdx + 1
      ackEn := decide (s.txIdx + 1 < s.txLen)
      out := { Outputs.quiet with load := some (byteAt .tx s.txIdx s), release := true } }) ∧
    (s.txLen ≤ s.txIdx → exec .evStDataAck s = .next { s with
      ackEn := false
      out := { Outputs.quiet with load := some 0x00, release := true } })

/-- R140, R169, R170. -/
def Obligations.TransmitEnds : Prop :=
  ∀ i ∈ [Instr.evStDataNack, .evStLastData], ∀ s : State, s.busEn = true → s.irqEn = true →
    exec i s = .next { s with ackEn := true, mode := .ready, out := { Outputs.quiet with release := true } }

/-- R141, R171: no state changes and no output, not even `RELEASE`. -/
def Obligations.NoInfoChangesNothing : Prop :=
  ∀ s : State, s.busEn = true → s.irqEn = true → exec .evNoInfo s = .next { s with out := Outputs.quiet }

/-- R142, R172. -/
def Obligations.BusErrorRecovers : Prop :=
  ∀ s : State, s.busEn = true → s.irqEn = true →
    exec .evBusError s = .next { s with
      errLatch := 0x00
      stopPending := true
      ackEn := true
      mode := .ready
      out := { Outputs.quiet with stopReq := true, release := true } }

/-- R145, R173: an unknown code is latched and recovered from like a bus error. -/
def Obligations.UnknownCodeRecovers : Prop :=
  ∀ p ∈ [(Instr.evUnknownD0, (0xD0 : Byte)), (.evUnknownD8, 0xD8), (.evUnknownE0, 0xE0), (.evUnknownE8, 0xE8),
      (.evUnknownF0, 0xF0)],
    ∀ s : State, s.busEn = true → s.irqEn = true →
    exec p.1 s = .next { s with
      errLatch := p.2
      stopPending := true
      ackEn := true
      mode := .ready
      out := { Outputs.quiet with stopReq := true, release := true } }

/-- R143 and the eight master codes (R148 to R151, R153 to R156). -/
def Obligations.MasterCodesEndTransaction : Prop :=
  ∀ i ∈ [Instr.evMtSlaAck, .evMtSlaNack, .evMtDataAck, .evMtDataNack, .evMrSlaAck, .evMrSlaNack, .evMrDataAck,
      .evMrDataNack],
    ∀ s : State, s.busEn = true → s.irqEn = true →
    exec i s = .next { s with
      stopPending := true
      ackEn := true
      mode := .ready
      out := { Outputs.quiet with stopReq := true, release := true } }

/-- R144, R152: after arbitration loss no stop is issued. -/
def Obligations.ArbitrationLossIssuesNoStop : Prop :=
  ∀ s : State, s.busEn = true → s.irqEn = true →
    exec .evArbLost s = .next { s with ackEn := true, mode := .ready, out := { Outputs.quiet with release := true } }

/-- The dispatch of R130: with `BUS_EN = 1` and `IRQ_EN = 1`, in any `FG_STATE`, an event runs the action of its code's class under the status
map of R83, whatever the mode, and releases the bus unless the class is `NoInfo`. An action that leaves its storage space
faults, which is the model's answer (log entry 10); in a state of the invariant none does (`NoStepFaults`). -/
def Obligations.EventRunsItsClassAction : Prop :=
  ∀ (S D : Byte) (i : Instr) (s : State), decode (.event S D) = .ok i → s.busEn = true → s.irqEn = true →
    exec i s =
      match classAction (statusMap (S &&& 0xF8)) (S &&& 0xF8) D { s with out := Outputs.quiet } with
      | .ok t =>
        if statusMap (S &&& 0xF8) = .noInfo then .next t else .next { t with out := { t.out with release := true } }
      | .error f => .fault f

/-- R174: `MODE`, `ACK_EN`, the stop and `RELEASE` after each class, from any prior mode. -/
def Obligations.ModeAfterEachClass : Prop :=
  ∀ (S D : Byte) (i : Instr) (s t : State), decode (.event S D) = .ok i → exec i s = .next t →
    match statusMap (S &&& 0xF8) with
    | .start => t.mode = s.mode ∧ t.ackEn = true ∧ t.out.stopReq = false ∧ t.out.release = true
    | .addrRx => t.mode = .slaveReceive ∧ t.ackEn = true ∧ t.out.stopReq = false ∧ t.out.release = true
    | .dataRx => t.mode = s.mode ∧ t.out.stopReq = false ∧ t.out.release = true ∧ t.ackEn = !rxFull s
    | .dataNackRx => t.mode = s.mode ∧ t.ackEn = false ∧ t.out.stopReq = false ∧ t.out.release = true
    | .stopRx => t.mode = .ready ∧ t.ackEn = true ∧ t.out.stopReq = true ∧ t.out.release = true
    | .addrTx =>
      t.mode = .slaveTransmit ∧ t.ackEn = decide (1 < t.txLen) ∧ t.out.stopReq = false ∧ t.out.release = true
    | .sendNext =>
      t.mode = s.mode ∧ t.ackEn = decide (t.txIdx < t.txLen) ∧ t.out.stopReq = false ∧ t.out.release = true
    | .txDone => t.mode = .ready ∧ t.ackEn = true ∧ t.out.stopReq = false ∧ t.out.release = true
    | .noInfo => t.mode = s.mode ∧ t.ackEn = s.ackEn ∧ t.out.stopReq = false ∧ t.out.release = false
    | .busError => t.mode = .ready ∧ t.ackEn = true ∧ t.out.stopReq = true ∧ t.out.release = true
    | .masterDefensive => t.mode = .ready ∧ t.ackEn = true ∧ t.out.stopReq = true ∧ t.out.release = true
    | .masterArbLost => t.mode = .ready ∧ t.ackEn = true ∧ t.out.stopReq = false ∧ t.out.release = true
    | .unknown => t.mode = .ready ∧ t.ackEn = true ∧ t.out.stopReq = true ∧ t.out.release = true

/-! ### The foreground operations -/

/-- R191, with the `pop` of R56: the oldest unread byte, or `None` and the rewind mark. -/
def Obligations.ReadPopsOrMarks : Prop :=
  ∀ s : State, s.fgState = .idle →
    (s.rxHead = s.rxTail → exec .fgRead s = .next { s with
      rxMark := s.rxTail
      out := { Outputs.quiet with result := .read none } }) ∧
    (s.rxHead ≠ s.rxTail → s.rxTail < s.cfg.nRx → exec .fgRead s = .next { s with
      rxTail := (s.rxTail + 1) % s.cfg.nRx
      out := { Outputs.quiet with result := .read (some (byteAt .rx s.rxTail s)) } })

/-- R59: the rewind writes no byte and does not change `RX_HEAD`. -/
def Obligations.ResetReadCursorRewinds : Prop :=
  ∀ s : State, s.fgState = .idle →
    exec .fgResetReadCursor s = .next { s with rxTail := s.rxMark, out := { Outputs.quiet with result := .done } }

/-- R193, R222, R223: `TooLarge` is checked first, then `WrongMode`; on success bytes `0..length-1` are copied and the length
recorded, `TX_IDX` unchanged. -/
def Obligations.TransmitStagesPayload : Prop :=
  ∀ (bytes : List Byte) (s : State), s.fgState = .idle →
    (s.cfg.nTx < bytes.length → exec (.fgTransmit bytes.length bytes) s =
      .next { s with out := { Outputs.quiet with result := .transmitErr .tooLarge } }) ∧
    (bytes.length ≤ s.cfg.nTx → s.mode ≠ .slaveTransmit → exec (.fgTransmit bytes.length bytes) s =
      .next { s with out := { Outputs.quiet with result := .transmitErr .wrongMode } }) ∧
    (bytes.length ≤ s.cfg.nTx → s.mode = .slaveTransmit → ∃ m,
      exec (.fgTransmit bytes.length bytes) s = .next { s with
        txBuf := m
        txLen := bytes.length
        out := { Outputs.quiet with result := .transmitOk } } ∧
      (∀ k, k < bytes.length → Memory.read? m k = bytes[k]?) ∧
      (∀ k, bytes.length ≤ k → Memory.read? m k = Memory.read? s.txBuf k))

/-- The form `FG TRANSMIT len=L` of R96, whose bytes are unspecified (93 U2): the errors are those of R193, and where the
request is accepted each staged byte is a free value (the model's choice, log entry 4). -/
def Obligations.TransmitOfUnspecifiedBytes : Prop :=
  ∀ (length : Nat) (s : State), s.fgState = .idle →
    (s.cfg.nTx < length → exec (.fgTransmit length []) s =
      .next { s with out := { Outputs.quiet with result := .transmitErr .tooLarge } }) ∧
    (length ≤ s.cfg.nTx → s.mode ≠ .slaveTransmit → exec (.fgTransmit length []) s =
      .next { s with out := { Outputs.quiet with result := .transmitErr .wrongMode } }) ∧
    (1 ≤ length → length ≤ s.cfg.nTx → s.mode = .slaveTransmit → ∃ m,
      exec (.fgTransmit length []) s = .next { s with
        txBuf := m
        txLen := length
        draws := s.draws + 1
        out := { Outputs.quiet with result := .transmitOk } } ∧
      (∀ k, k < length → Memory.read? m k = some (Config.unspecifiedByte s.draws k)) ∧
      (∀ k, length ≤ k → Memory.read? m k = Memory.read? s.txBuf k))

/-- R194, R200, R244: the cursors, enables, address and latch; storage, `STOP_PENDING`, the request flags and `FG_STATE` keep
their values; mid-transaction use is recorded and the update still happens. -/
def Obligations.InitResetsRegisters : Prop :=
  ∀ (addr : BitVec 7) (s : State), s.fgState = .idle →
    exec (.fgInit addr) s = .next { s with
      mode := .ready
      rxHead := 0
      rxTail := 0
      rxMark := 0
      txIdx := 0
      txLen := 0
      ackEn := true
      irqEn := true
      busEn := true
      ownAddr := addr
      errLatch := 0xFF
      modelFault :=
        if s.mode ≠ .ready ∧ .initMidTransaction ∉ s.modelFault then .initMidTransaction :: s.modelFault
        else s.modelFault
      out := { Outputs.quiet with result := .done } }

/-- R195: `MODE` is not changed until `FGRESUME`. -/
def Obligations.ForceStopWaits : Prop :=
  ∀ s : State, s.fgState = .idle →
    exec .fgForceStop s = .next { s with
      stopPending := true
      ackEn := true
      fgState := .waitStop
      out := { Outputs.quiet with stopReq := true } }

/-- R197: with `FG_STATE = WaitStop` and `STOP_PENDING = 0`; it overrides a mode set during the wait. -/
def Obligations.ResumeEndsWait : Prop :=
  ∀ s : State, s.fgState = .waitStop → s.stopPending = false →
    exec .fgResume s = .next { s with
      mode := .ready
      fgState := .idle
      out := { Outputs.quiet with result := .done } }

/-- R196. -/
def Obligations.ReleaseBusReenables : Prop :=
  ∀ s : State, s.fgState = .idle →
    exec .fgReleaseBus s = .next { s with
      ackEn := true
      irqEn := true
      out := { Outputs.quiet with release := true, result := .done } }

/-- R198. -/
def Obligations.ClearErrorClearsLatch : Prop :=
  ∀ s : State, s.fgState = .idle →
    exec .fgClearError s = .next { s with errLatch := 0xFF, out := { Outputs.quiet with result := .done } }

/-- R41, R90, R199: the side-effect-free read ports. -/
def Obligations.ReadPortsShowRegisters : Prop :=
  ∀ s : State,
    (s.fgState = .idle → readErrPort s = some s.errLatch ∧ readModePort s =
      some (match s.mode with | .ready => 0 | .slaveReceive => 1 | .slaveTransmit => 2)) ∧
    (s.fgState = .waitStop → readErrPort s = none ∧ readModePort s = none) ∧
    readFlagPorts s = (s.reqStatus, s.reqCycle, s.reqHold)

/-! ### The other agents -/

/-- R60: enabled while `STOP_PENDING = 1`; `STOP_PENDING <- 0` and nothing else. The refusal is the model's (log entry 6). -/
def Obligations.StopDoneClearsPending : Prop :=
  ∀ s : State,
    (s.stopPending = true → exec .busStopdone s = .next { s with stopPending := false, out := Outputs.quiet }) ∧
    (s.stopPending = false → exec .busStopdone s = .refused .stopDoneNotEnabled)

/-- R117: always enabled; clears that flag only. -/
def Obligations.ClearWritesOneFlag : Prop :=
  ∀ s : State,
    exec .collabClrStatus s = .next { s with reqStatus := false, out := Outputs.quiet } ∧
    exec .collabClrCycle s = .next { s with reqCycle := false, out := Outputs.quiet } ∧
    exec .collabClrHold s = .next { s with reqHold := false, out := Outputs.quiet }

/-! ### Reset -/

/-- R240: the power-on value of every register, for every parameter value; the storage bytes are unspecified. -/
def Obligations.PowerOnValues : Prop :=
  ∀ p : Config.Params,
    (State.powerOn p).cfg = p ∧ (State.powerOn p).mode = .ready ∧
    (State.powerOn p).rxHead = 0 ∧ (State.powerOn p).rxTail = 0 ∧ (State.powerOn p).rxMark = 0 ∧
    (State.powerOn p).txLen = 0 ∧ (State.powerOn p).txIdx = 0 ∧ (State.powerOn p).ackEn = false ∧
    (State.powerOn p).irqEn = false ∧ (State.powerOn p).busEn = false ∧ (State.powerOn p).stopPending = false ∧
    (State.powerOn p).ownAddr = 0 ∧ (State.powerOn p).errLatch = 0xFF ∧ (State.powerOn p).reqStatus = false ∧
    (State.powerOn p).reqCycle = false ∧ (State.powerOn p).reqHold = false ∧ (State.powerOn p).fgState = .idle ∧
    (State.powerOn p).modelFault = [] ∧ State.reset = State.powerOn State.reset.cfg

/-- R241: the initialised state differs from power-on in four registers only. -/
def Obligations.InitialisedState : Prop :=
  ∀ (p : Config.Params) (a : BitVec 7),
    exec (.fgInit a) (State.powerOn p) = .next { State.powerOn p with
      ackEn := true
      irqEn := true
      busEn := true
      ownAddr := a
      out := { Outputs.quiet with result := .done } }

/-- R242: after power-on no event is enabled and the foreground port is live at once. The refusals of a disabled event and of
a resumption before `STOPDONE` are the model's (log entry 6), and so is the free value of every storage byte (log entry 3). -/
def Obligations.PowerOnBehaviour : Prop :=
  ∀ p : Config.Params,
    (∀ i, stepKind i = .event → exec i (State.powerOn p) = .refused .eventNotEnabled) ∧
    (∀ sp i, byteAt sp i (State.powerOn p) = Config.unwrittenByte sp i) ∧
    (∃ t, exec .fgRead (State.powerOn p) = .next t ∧ t.out.result = .read none) ∧
    (∀ length bytes, length ≤ p.nTx → ∃ t,
      exec (.fgTransmit length bytes) (State.powerOn p) = .next t ∧ t.out.result = .transmitErr .wrongMode) ∧
    (∃ t, exec .fgForceStop (State.powerOn p) = .next t ∧ t.stopPending = true ∧ t.fgState = .waitStop ∧
      exec .fgResume t = .refused .resumeNotEnabled)

/-- The invariant holds at power-on, for every configuration that meets R9, and at the model's reset state. -/
def Obligations.InvariantHoldsAtPowerOn : Prop :=
  (∀ p : Config.Params, p.wf = true → (State.powerOn p).Inv ∧ (State.powerOn p).InertUntilInit) ∧ State.reset.Inv

/-! ### Rules about every instruction -/

/-- Every step keeps the invariant: indices and storage stay in range, what can be read stays written, `ERR_LATCH` holds a
reachable value, `START_REQ` is never emitted, `MODEL_FAULT` stays a set (R23 to R28, R40, R42, R51, R54, R91). -/
def Obligations.StepKeepsInvariant : Prop :=
  ∀ s t : State, s.Inv → step s = .next t → t.Inv

/-- Every step keeps the block inert until `initialize` has run (R242). -/
def Obligations.StepKeepsInertUntilInit : Prop :=
  ∀ s t : State, s.InertUntilInit → step s = .next t → t.InertUntilInit

/-- The receive ring is a bounded queue of `N_RX - 1` bytes in first-in first-out order (R55, R56, R57, R255): payload bytes join at the end if there is room, `READ` takes the head. -/
def Obligations.RingRefinesBoundedQueue : Prop :=
  ∀ s : State, s.Inv →
    (unread s).length ≤ s.cfg.nRx - 1 ∧
    (∀ d : Byte, ∀ i ∈ [Instr.evSrDataAck d, .evSrGcallDataAck d],
      s.busEn = true → s.irqEn = true → intercepted s d = none →
      ∃ t, exec i s = .next t ∧
        (if (unread s).length < s.cfg.nRx - 1 then unread t = unread s ++ [d] ∧ t.ackEn = true
         else unread t = unread s ∧ t.ackEn = false)) ∧
    (s.fgState = .idle → ∃ t, exec .fgRead s = .next t ∧
      match unread s with
      | [] => t.out.result = .read none ∧ unread t = [] ∧ t.rxMark = s.rxTail
      | b :: rest => t.out.result = .read (some b) ∧ unread t = rest ∧ t.rxMark = s.rxMark)

/-- R192's replay: a consumer at its rewind mark that reads some bytes while others arrive, by own address or by general
call, with no full drain and at most `N_RX - 1` bytes since the mark (R247), and then rewinds, has exactly the bytes since the mark to read again, in order. -/
def Obligations.RewindReplaysSinceMark : Prop :=
  ∀ (s : State) (ops : List PeekStep),
    s.Inv → s.busEn = true → s.irqEn = true → s.fgState = .idle → s.rxTail = s.rxMark →
    (∀ d, .arrive d ∈ ops ∨ .arriveByGeneralCall d ∈ ops → intercepted s d = none) →
    noFullDrain (unread s).length ops = true →
    (unread s).length + (ops.filterMap PeekStep.byte?).length ≤ s.cfg.nRx - 1 →
    ∃ t, runAll (ops.map PeekStep.instr ++ [.fgResetReadCursor]) s = .next t ∧
      unread t = unread s ++ ops.filterMap PeekStep.byte? ∧ t.rxMark = s.rxMark ∧ t.rxTail = s.rxMark

/-- R245 and R246: a stop over unread bytes replaces the oldest by the terminator; over an empty ring it leaves it empty; over
a full ring it writes nothing. -/
def Obligations.TerminatorOverwritesOldestUnread : Prop :=
  ∀ s t : State, s.Inv → exec .evSrStop s = .next t →
    t.rxHead = s.rxHead ∧ t.rxTail = s.rxTail ∧ t.rxMark = s.rxMark ∧
    match unread s with
    | [] => unread t = []
    | b :: rest => unread t = (if rest.length + 1 = s.cfg.nRx - 1 then b else 0x00) :: rest

/-- R54: a byte that `READ` returns, or that an event loads from the staged payload, has been written: none is the
unspecified power-on byte. -/
def Obligations.ReadsOnlyWrittenBytes : Prop :=
  ∀ s : State, s.Inv →
    (∀ t b, exec .fgRead s = .next t → t.out.result = .read (some b) → Memory.read? s.rxBuf s.rxTail = some b) ∧
    (∀ t b, exec .evStDataAck s = .next t → t.out.load = some b → s.txIdx < s.txLen →
      Memory.read? s.txBuf s.txIdx = some b) ∧
    (∀ i ∈ [Instr.evStSlaAck, .evStArbLostSlaAck], ∀ t b, exec i s = .next t → t.out.load = some b →
      Memory.read? t.txBuf 0 = some b)

/-- The storage frame (R38, R63): every byte of either storage space that the instruction does not store to reads as before. -/
def Obligations.UnstoredBytesUnchanged : Prop :=
  ∀ (i : Instr) (s t : State), exec i s = .next t →
    (∀ a, storedRx i s ≠ some a → Memory.read? t.rxBuf a = Memory.read? s.rxBuf a) ∧
    (∀ a, storedTx i s ≤ a → Memory.read? t.txBuf a = Memory.read? s.txBuf a)

/-- R38: which steps write each register. -/
def Obligations.WritersOfEachRegister : Prop :=
  ∀ (i : Instr) (s t : State), exec i s = .next t →
    (t.mode ≠ s.mode → stepKind i = .event ∨ stepKind i = .resume ∨ ∃ a, i = .fgInit a) ∧
    (t.rxBuf ≠ s.rxBuf → stepKind i = .event) ∧
    (t.rxHead ≠ s.rxHead → stepKind i = .event ∨ ∃ a, i = .fgInit a) ∧
    (t.rxTail ≠ s.rxTail ∨ t.rxMark ≠ s.rxMark → stepKind i = .foreground) ∧
    (t.txBuf ≠ s.txBuf ∨ t.txLen ≠ s.txLen → stepKind i = .foreground ∨
      (stepKind i = .event ∧ t.txLen = 1 ∧ ∀ a, a ≠ 0 → Memory.read? t.txBuf a = Memory.read? s.txBuf a)) ∧
    (t.txIdx ≠ s.txIdx → stepKind i = .event ∨ ∃ a, i = .fgInit a) ∧
    (t.ackEn ≠ s.ackEn → stepKind i = .event ∨ (∃ a, i = .fgInit a) ∨ i = .fgForceStop ∨ i = .fgReleaseBus) ∧
    (t.irqEn ≠ s.irqEn ∨ t.busEn ≠ s.busEn ∨ t.ownAddr ≠ s.ownAddr → stepKind i = .foreground) ∧
    (t.stopPending ≠ s.stopPending →
      if t.stopPending then stepKind i = .event ∨ stepKind i = .foreground else i = .busStopdone) ∧
    (t.errLatch ≠ s.errLatch → stepKind i = .event ∨ i = .fgClearError ∨ ∃ a, i = .fgInit a) ∧
    (t.reqStatus ≠ s.reqStatus → if t.reqStatus then stepKind i = .event else i = .collabClrStatus) ∧
    (t.reqCycle ≠ s.reqCycle → if t.reqCycle then stepKind i = .event else i = .collabClrCycle) ∧
    (t.reqHold ≠ s.reqHold → if t.reqHold then stepKind i = .event else i = .collabClrHold) ∧
    (t.fgState ≠ s.fgState → stepKind i = .foreground ∨ stepKind i = .resume)

/-- R118: a request flag once set stays 1 until a `CLR` of that flag. -/
def Obligations.RequestFlagsAreSticky : Prop :=
  ∀ (i : Instr) (s t : State), exec i s = .next t →
    (s.reqStatus = true → i ≠ .collabClrStatus → t.reqStatus = true) ∧
    (s.reqCycle = true → i ≠ .collabClrCycle → t.reqCycle = true) ∧
    (s.reqHold = true → i ≠ .collabClrHold → t.reqHold = true)

/-- R32: `STOP_PENDING` is cleared only by `STOPDONE`, and every stop request sets it. -/
def Obligations.StopPendingUntilStopDone : Prop :=
  ∀ (i : Instr) (s t : State), exec i s = .next t →
    (s.stopPending = true → i ≠ .busStopdone → t.stopPending = true) ∧
    (t.out.stopReq = true → t.stopPending = true)

/-- R30, R31, R36: nothing writes 0 to `IRQ_EN` or `BUS_EN`; only `initialize` sets `BUS_EN` and writes `OWN_ADDR` (R33); no
operation writes the parameters. -/
def Obligations.EnablesAndConfigurationStay : Prop :=
  ∀ (i : Instr) (s t : State), exec i s = .next t →
    t.cfg = s.cfg ∧ (s.irqEn = true → t.irqEn = true) ∧ (s.busEn = true → t.busEn = true) ∧
    ((∀ a, i ≠ .fgInit a) → t.busEn = s.busEn ∧ t.ownAddr = s.ownAddr ∧ (i ≠ .fgReleaseBus → t.irqEn = s.irqEn)) ∧
    (∀ a, i = .fgInit a → t.ownAddr = a)

/-- R42: `MODEL_FAULT` gains `INIT_MID_TRANSACTION` from an `INIT` outside `Ready` (R200) and nothing else; nothing leaves it. -/
def Obligations.ModelFaultRecordsMisuse : Prop :=
  ∀ (i : Instr) (s t : State), exec i s = .next t →
    (∀ r ∈ s.modelFault, r ∈ t.modelFault) ∧
    (t.modelFault ≠ s.modelFault → s.mode ≠ .ready ∧ ∃ a, i = .fgInit a) ∧
    (s.mode ≠ .ready → (∃ a, i = .fgInit a) → .initMidTransaction ∈ t.modelFault)

/-- `ERR_LATCH` "never gates behavior" (R34, R224), and `OWN_ADDR` is never compared (R33): no outcome depends on either. -/
def Obligations.DiagnosticsNeverGate : Prop :=
  ∀ (i : Instr) (s : State) (e : Byte) (a : BitVec 7),
    forgetDiagnostics (exec i { s with errLatch := e, ownAddr := a }) = forgetDiagnostics (exec i s)
end

