-- ==== Sys2Proof/Laws/Flags.lean ====
section
/-! SUPPORT. The ring's predicates as arithmetic, and what reads no output or flag is unchanged by an update of one. -/

namespace Sys2Proof.Machine

variable (s : State)

theorem rxFull_eq_true : rxFull s = true ↔ (s.rxHead + 1) % s.cfg.nRx = s.rxTail := by
  simp [rxFull, nextIndex]

theorem rxFull_eq_false : rxFull s = false ↔ (s.rxHead + 1) % s.cfg.nRx ≠ s.rxTail := by
  simp [rxFull, nextIndex]

theorem rxEmpty_eq_true : rxEmpty s = true ↔ s.rxHead = s.rxTail := by simp [rxEmpty]

theorem rxEmpty_eq_false : rxEmpty s = false ↔ s.rxHead ≠ s.rxTail := by simp [rxEmpty]

@[simp] theorem rxFull_beginStep : rxFull (beginStep s) = rxFull s := rfl
@[simp] theorem rxEmpty_beginStep : rxEmpty (beginStep s) = rxEmpty s := rfl
@[simp] theorem intercepted_beginStep (d : Byte) : intercepted (beginStep s) d = intercepted s d := rfl
@[simp] theorem spaceSize_beginStep (sp : Config.Space) : spaceSize sp (beginStep s) = spaceSize sp s := by cases sp <;> rfl
@[simp] theorem spaceMem_beginStep (sp : Config.Space) : spaceMem sp (beginStep s) = spaceMem sp s := by cases sp <;> rfl
@[simp] theorem byteAt_beginStep (sp : Config.Space) (i : Nat) : byteAt sp i (beginStep s) = byteAt sp i s := by
  cases sp <;> rfl

/-- A control action does not touch the ring. -/
@[simp] theorem rxFull_perform (a : ControlAction) : rxFull (perform a s) = rxFull s := by cases a <;> rfl

/-- Outside `SlaveReceive` nothing is intercepted (R111). -/
theorem intercepted_of_mode_ne {s : State} {d : Byte} (h : s.mode ≠ .slaveReceive) : intercepted s d = none := by
  unfold intercepted
  cases hm : s.mode <;> simp_all

/-- A byte written since power-on is the one read (R64). -/
theorem byteAt_of_listed {sp : Config.Space} {i : Nat} {b : Byte} (h : Memory.read? (spaceMem sp s) i = some b) :
    byteAt sp i s = b := by
  simp [byteAt, h]

end Sys2Proof.Machine
end

