-- ==== Sys2Proof/Laws/Memory.lean ====
section
/-! SUPPORT. The laws of a storage list: a read after a write, every other index unchanged, the canonical form kept. -/

namespace Sys2Proof.Machine

@[simp] theorem Memory.read?_nil (i : Nat) : Memory.read? [] i = none := rfl

/-- A read after a write to the same index gives the byte written. -/
@[simp] theorem Memory.read?_write_same (m : Memory) (i : Nat) (b : Byte) : Memory.read? (Memory.write i b m) i = some b := by
  induction m with
  | nil => simp [Memory.write, Memory.read?]
  | cons c m ih =>
    obtain ⟨j, c⟩ := c
    unfold Memory.write
    split
    · simp [Memory.read?]
    · split
      · simp [Memory.read?]
      · have : j ≠ i := by omega
        simp [Memory.read?, this, ih]

/-- A write leaves every other index as it was. -/
theorem Memory.read?_write_other (m : Memory) {i j : Nat} (b : Byte) (h : j ≠ i) :
    Memory.read? (Memory.write i b m) j = Memory.read? m j := by
  induction m with
  | nil => simp [Memory.write, Memory.read?, h.symm]
  | cons c m ih =>
    obtain ⟨k, c⟩ := c
    unfold Memory.write
    split
    · simp [Memory.read?, h.symm]
    · split
      · subst i; simp [Memory.read?, h.symm]
      · by_cases hk : k = j
        · simp [Memory.read?, hk]
        · simp [Memory.read?, hk, ih]

/-- What is listed stays listed after a write. -/
theorem Memory.isSome_read?_write (m : Memory) {i j : Nat} (b : Byte) (h : (Memory.read? m j).isSome = true) :
    (Memory.read? (Memory.write i b m) j).isSome = true := by
  by_cases hj : j = i
  · subst hj; simp
  · simpa [Memory.read?_write_other m b hj] using h

/-- The indices a written list holds are the old ones and the one written. -/
theorem Memory.mem_write {m : Memory} {i : Nat} {b : Byte} {c : Host.Cell} (h : c ∈ Memory.write i b m) :
    c.1 = i ∨ c ∈ m := by
  induction m with
  | nil => simp [Memory.write] at h; simp [h]
  | cons d m ih =>
    obtain ⟨j, d⟩ := d
    unfold Memory.write at h
    split at h
    · rcases List.mem_cons.1 h with rfl | h
      · exact .inl rfl
      · exact .inr h
    · split at h
      · rcases List.mem_cons.1 h with rfl | h
        · exact .inl rfl
        · exact .inr (List.mem_cons_of_mem _ h)
      · rcases List.mem_cons.1 h with rfl | h
        · exact .inr List.mem_cons_self
        · exact (ih h).imp id (List.mem_cons_of_mem _)

/-- The canonical form is the strict order of the indices. -/
theorem Memory.wf_iff_pairwise (m : Memory) : Memory.wf m = true ↔ m.Pairwise (fun a b => a.1 < b.1) := by
  induction m with
  | nil => simp [Memory.wf]
  | cons c m ih =>
    cases m with
    | nil => simp [Memory.wf]
    | cons d m =>
      obtain ⟨i, c⟩ := c
      obtain ⟨j, d⟩ := d
      rw [Memory.wf, Bool.and_eq_true, decide_eq_true_eq, ih, List.pairwise_cons (a := (i, c))]
      constructor
      · rintro ⟨hij, hp⟩
        refine ⟨?_, hp⟩
        intro e he
        rcases List.mem_cons.1 he with rfl | he
        · exact hij
        · exact Nat.lt_trans hij ((List.pairwise_cons.1 hp).1 e he)
      · rintro ⟨hall, hp⟩
        exact ⟨hall _ List.mem_cons_self, hp⟩

/-- A write keeps the canonical form. -/
theorem Memory.wf_write {m : Memory} (i : Nat) (b : Byte) (h : Memory.wf m = true) :
    Memory.wf (Memory.write i b m) = true := by
  rw [Memory.wf_iff_pairwise] at h ⊢
  induction m with
  | nil => simp [Memory.write]
  | cons c m ih =>
    obtain ⟨j, c⟩ := c
    obtain ⟨hall, hp⟩ := List.pairwise_cons.1 h
    unfold Memory.write
    split
    · rename_i hij
      refine List.pairwise_cons.2 ⟨?_, h⟩
      intro e he
      rcases List.mem_cons.1 he with rfl | he
      · exact hij
      · exact Nat.lt_trans hij (hall e he)
    · split
      · rename_i hij
        subst hij
        exact List.pairwise_cons.2 ⟨hall, hp⟩
      · refine List.pairwise_cons.2 ⟨?_, ih hp⟩
        intro e he
        rcases Memory.mem_write he with h1 | h1
        · show j < e.1; omega
        · exact hall e h1

/-- The storage of a power-on state is canonical. -/
theorem powerOn_storage_wf (p : Config.Params) :
    Memory.wf (State.powerOn p).rxBuf = true ∧ Memory.wf (State.powerOn p).txBuf = true := ⟨rfl, rfl⟩

end Sys2Proof.Machine
end

