-- ==== Sys2Proof/Laws/State.lean ====
section
/-! SUPPORT. What each named update of the state does to each field: one lemma per field per update, so that no later proof
unfolds a record update. -/

namespace Sys2Proof.Machine

@[simp] theorem beginStep_cfg (s : State) : (beginStep s).cfg = s.cfg := rfl
@[simp] theorem beginStep_mode (s : State) : (beginStep s).mode = s.mode := rfl
@[simp] theorem beginStep_rxBuf (s : State) : (beginStep s).rxBuf = s.rxBuf := rfl
@[simp] theorem beginStep_rxHead (s : State) : (beginStep s).rxHead = s.rxHead := rfl
@[simp] theorem beginStep_rxTail (s : State) : (beginStep s).rxTail = s.rxTail := rfl
@[simp] theorem beginStep_rxMark (s : State) : (beginStep s).rxMark = s.rxMark := rfl
@[simp] theorem beginStep_txBuf (s : State) : (beginStep s).txBuf = s.txBuf := rfl
@[simp] theorem beginStep_txLen (s : State) : (beginStep s).txLen = s.txLen := rfl
@[simp] theorem beginStep_txIdx (s : State) : (beginStep s).txIdx = s.txIdx := rfl
@[simp] theorem beginStep_ackEn (s : State) : (beginStep s).ackEn = s.ackEn := rfl
@[simp] theorem beginStep_irqEn (s : State) : (beginStep s).irqEn = s.irqEn := rfl
@[simp] theorem beginStep_busEn (s : State) : (beginStep s).busEn = s.busEn := rfl
@[simp] theorem beginStep_stopPending (s : State) : (beginStep s).stopPending = s.stopPending := rfl
@[simp] theorem beginStep_ownAddr (s : State) : (beginStep s).ownAddr = s.ownAddr := rfl
@[simp] theorem beginStep_errLatch (s : State) : (beginStep s).errLatch = s.errLatch := rfl
@[simp] theorem beginStep_reqStatus (s : State) : (beginStep s).reqStatus = s.reqStatus := rfl
@[simp] theorem beginStep_reqCycle (s : State) : (beginStep s).reqCycle = s.reqCycle := rfl
@[simp] theorem beginStep_reqHold (s : State) : (beginStep s).reqHold = s.reqHold := rfl
@[simp] theorem beginStep_fgState (s : State) : (beginStep s).fgState = s.fgState := rfl
@[simp] theorem beginStep_modelFault (s : State) : (beginStep s).modelFault = s.modelFault := rfl
@[simp] theorem beginStep_out (s : State) : (beginStep s).out = Outputs.quiet := rfl
@[simp] theorem beginStep_draws (s : State) : (beginStep s).draws = s.draws := rfl
@[simp] theorem beginStep_inputs (s : State) : (beginStep s).inputs = s.inputs := rfl

@[simp] theorem setMode_cfg (m : Mode) (s : State) : (setMode m s).cfg = s.cfg := rfl
@[simp] theorem setMode_mode (m : Mode) (s : State) : (setMode m s).mode = m := rfl
@[simp] theorem setMode_rxBuf (m : Mode) (s : State) : (setMode m s).rxBuf = s.rxBuf := rfl
@[simp] theorem setMode_rxHead (m : Mode) (s : State) : (setMode m s).rxHead = s.rxHead := rfl
@[simp] theorem setMode_rxTail (m : Mode) (s : State) : (setMode m s).rxTail = s.rxTail := rfl
@[simp] theorem setMode_rxMark (m : Mode) (s : State) : (setMode m s).rxMark = s.rxMark := rfl
@[simp] theorem setMode_txBuf (m : Mode) (s : State) : (setMode m s).txBuf = s.txBuf := rfl
@[simp] theorem setMode_txLen (m : Mode) (s : State) : (setMode m s).txLen = s.txLen := rfl
@[simp] theorem setMode_txIdx (m : Mode) (s : State) : (setMode m s).txIdx = s.txIdx := rfl
@[simp] theorem setMode_ackEn (m : Mode) (s : State) : (setMode m s).ackEn = s.ackEn := rfl
@[simp] theorem setMode_irqEn (m : Mode) (s : State) : (setMode m s).irqEn = s.irqEn := rfl
@[simp] theorem setMode_busEn (m : Mode) (s : State) : (setMode m s).busEn = s.busEn := rfl
@[simp] theorem setMode_stopPending (m : Mode) (s : State) : (setMode m s).stopPending = s.stopPending := rfl
@[simp] theorem setMode_ownAddr (m : Mode) (s : State) : (setMode m s).ownAddr = s.ownAddr := rfl
@[simp] theorem setMode_errLatch (m : Mode) (s : State) : (setMode m s).errLatch = s.errLatch := rfl
@[simp] theorem setMode_reqStatus (m : Mode) (s : State) : (setMode m s).reqStatus = s.reqStatus := rfl
@[simp] theorem setMode_reqCycle (m : Mode) (s : State) : (setMode m s).reqCycle = s.reqCycle := rfl
@[simp] theorem setMode_reqHold (m : Mode) (s : State) : (setMode m s).reqHold = s.reqHold := rfl
@[simp] theorem setMode_fgState (m : Mode) (s : State) : (setMode m s).fgState = s.fgState := rfl
@[simp] theorem setMode_modelFault (m : Mode) (s : State) : (setMode m s).modelFault = s.modelFault := rfl
@[simp] theorem setMode_out (m : Mode) (s : State) : (setMode m s).out = s.out := rfl
@[simp] theorem setMode_draws (m : Mode) (s : State) : (setMode m s).draws = s.draws := rfl
@[simp] theorem setMode_inputs (m : Mode) (s : State) : (setMode m s).inputs = s.inputs := rfl

@[simp] theorem setAck_cfg (v : Bool) (s : State) : (setAck v s).cfg = s.cfg := rfl
@[simp] theorem setAck_mode (v : Bool) (s : State) : (setAck v s).mode = s.mode := rfl
@[simp] theorem setAck_rxBuf (v : Bool) (s : State) : (setAck v s).rxBuf = s.rxBuf := rfl
@[simp] theorem setAck_rxHead (v : Bool) (s : State) : (setAck v s).rxHead = s.rxHead := rfl
@[simp] theorem setAck_rxTail (v : Bool) (s : State) : (setAck v s).rxTail = s.rxTail := rfl
@[simp] theorem setAck_rxMark (v : Bool) (s : State) : (setAck v s).rxMark = s.rxMark := rfl
@[simp] theorem setAck_txBuf (v : Bool) (s : State) : (setAck v s).txBuf = s.txBuf := rfl
@[simp] theorem setAck_txLen (v : Bool) (s : State) : (setAck v s).txLen = s.txLen := rfl
@[simp] theorem setAck_txIdx (v : Bool) (s : State) : (setAck v s).txIdx = s.txIdx := rfl
@[simp] theorem setAck_ackEn (v : Bool) (s : State) : (setAck v s).ackEn = v := rfl
@[simp] theorem setAck_irqEn (v : Bool) (s : State) : (setAck v s).irqEn = s.irqEn := rfl
@[simp] theorem setAck_busEn (v : Bool) (s : State) : (setAck v s).busEn = s.busEn := rfl
@[simp] theorem setAck_stopPending (v : Bool) (s : State) : (setAck v s).stopPending = s.stopPending := rfl
@[simp] theorem setAck_ownAddr (v : Bool) (s : State) : (setAck v s).ownAddr = s.ownAddr := rfl
@[simp] theorem setAck_errLatch (v : Bool) (s : State) : (setAck v s).errLatch = s.errLatch := rfl
@[simp] theorem setAck_reqStatus (v : Bool) (s : State) : (setAck v s).reqStatus = s.reqStatus := rfl
@[simp] theorem setAck_reqCycle (v : Bool) (s : State) : (setAck v s).reqCycle = s.reqCycle := rfl
@[simp] theorem setAck_reqHold (v : Bool) (s : State) : (setAck v s).reqHold = s.reqHold := rfl
@[simp] theorem setAck_fgState (v : Bool) (s : State) : (setAck v s).fgState = s.fgState := rfl
@[simp] theorem setAck_modelFault (v : Bool) (s : State) : (setAck v s).modelFault = s.modelFault := rfl
@[simp] theorem setAck_out (v : Bool) (s : State) : (setAck v s).out = s.out := rfl
@[simp] theorem setAck_draws (v : Bool) (s : State) : (setAck v s).draws = s.draws := rfl
@[simp] theorem setAck_inputs (v : Bool) (s : State) : (setAck v s).inputs = s.inputs := rfl

@[simp] theorem emitLoad_cfg (b : Byte) (s : State) : (emitLoad b s).cfg = s.cfg := rfl
@[simp] theorem emitLoad_mode (b : Byte) (s : State) : (emitLoad b s).mode = s.mode := rfl
@[simp] theorem emitLoad_rxBuf (b : Byte) (s : State) : (emitLoad b s).rxBuf = s.rxBuf := rfl
@[simp] theorem emitLoad_rxHead (b : Byte) (s : State) : (emitLoad b s).rxHead = s.rxHead := rfl
@[simp] theorem emitLoad_rxTail (b : Byte) (s : State) : (emitLoad b s).rxTail = s.rxTail := rfl
@[simp] theorem emitLoad_rxMark (b : Byte) (s : State) : (emitLoad b s).rxMark = s.rxMark := rfl
@[simp] theorem emitLoad_txBuf (b : Byte) (s : State) : (emitLoad b s).txBuf = s.txBuf := rfl
@[simp] theorem emitLoad_txLen (b : Byte) (s : State) : (emitLoad b s).txLen = s.txLen := rfl
@[simp] theorem emitLoad_txIdx (b : Byte) (s : State) : (emitLoad b s).txIdx = s.txIdx := rfl
@[simp] theorem emitLoad_ackEn (b : Byte) (s : State) : (emitLoad b s).ackEn = s.ackEn := rfl
@[simp] theorem emitLoad_irqEn (b : Byte) (s : State) : (emitLoad b s).irqEn = s.irqEn := rfl
@[simp] theorem emitLoad_busEn (b : Byte) (s : State) : (emitLoad b s).busEn = s.busEn := rfl
@[simp] theorem emitLoad_stopPending (b : Byte) (s : State) : (emitLoad b s).stopPending = s.stopPending := rfl
@[simp] theorem emitLoad_ownAddr (b : Byte) (s : State) : (emitLoad b s).ownAddr = s.ownAddr := rfl
@[simp] theorem emitLoad_errLatch (b : Byte) (s : State) : (emitLoad b s).errLatch = s.errLatch := rfl
@[simp] theorem emitLoad_reqStatus (b : Byte) (s : State) : (emitLoad b s).reqStatus = s.reqStatus := rfl
@[simp] theorem emitLoad_reqCycle (b : Byte) (s : State) : (emitLoad b s).reqCycle = s.reqCycle := rfl
@[simp] theorem emitLoad_reqHold (b : Byte) (s : State) : (emitLoad b s).reqHold = s.reqHold := rfl
@[simp] theorem emitLoad_fgState (b : Byte) (s : State) : (emitLoad b s).fgState = s.fgState := rfl
@[simp] theorem emitLoad_modelFault (b : Byte) (s : State) : (emitLoad b s).modelFault = s.modelFault := rfl
@[simp] theorem emitLoad_out (b : Byte) (s : State) : (emitLoad b s).out = { s.out with load := some b } := rfl
@[simp] theorem emitLoad_draws (b : Byte) (s : State) : (emitLoad b s).draws = s.draws := rfl
@[simp] theorem emitLoad_inputs (b : Byte) (s : State) : (emitLoad b s).inputs = s.inputs := rfl

@[simp] theorem emitRelease_cfg (s : State) : (emitRelease s).cfg = s.cfg := rfl
@[simp] theorem emitRelease_mode (s : State) : (emitRelease s).mode = s.mode := rfl
@[simp] theorem emitRelease_rxBuf (s : State) : (emitRelease s).rxBuf = s.rxBuf := rfl
@[simp] theorem emitRelease_rxHead (s : State) : (emitRelease s).rxHead = s.rxHead := rfl
@[simp] theorem emitRelease_rxTail (s : State) : (emitRelease s).rxTail = s.rxTail := rfl
@[simp] theorem emitRelease_rxMark (s : State) : (emitRelease s).rxMark = s.rxMark := rfl
@[simp] theorem emitRelease_txBuf (s : State) : (emitRelease s).txBuf = s.txBuf := rfl
@[simp] theorem emitRelease_txLen (s : State) : (emitRelease s).txLen = s.txLen := rfl
@[simp] theorem emitRelease_txIdx (s : State) : (emitRelease s).txIdx = s.txIdx := rfl
@[simp] theorem emitRelease_ackEn (s : State) : (emitRelease s).ackEn = s.ackEn := rfl
@[simp] theorem emitRelease_irqEn (s : State) : (emitRelease s).irqEn = s.irqEn := rfl
@[simp] theorem emitRelease_busEn (s : State) : (emitRelease s).busEn = s.busEn := rfl
@[simp] theorem emitRelease_stopPending (s : State) : (emitRelease s).stopPending = s.stopPending := rfl
@[simp] theorem emitRelease_ownAddr (s : State) : (emitRelease s).ownAddr = s.ownAddr := rfl
@[simp] theorem emitRelease_errLatch (s : State) : (emitRelease s).errLatch = s.errLatch := rfl
@[simp] theorem emitRelease_reqStatus (s : State) : (emitRelease s).reqStatus = s.reqStatus := rfl
@[simp] theorem emitRelease_reqCycle (s : State) : (emitRelease s).reqCycle = s.reqCycle := rfl
@[simp] theorem emitRelease_reqHold (s : State) : (emitRelease s).reqHold = s.reqHold := rfl
@[simp] theorem emitRelease_fgState (s : State) : (emitRelease s).fgState = s.fgState := rfl
@[simp] theorem emitRelease_modelFault (s : State) : (emitRelease s).modelFault = s.modelFault := rfl
@[simp] theorem emitRelease_out (s : State) : (emitRelease s).out = { s.out with release := true } := rfl
@[simp] theorem emitRelease_draws (s : State) : (emitRelease s).draws = s.draws := rfl
@[simp] theorem emitRelease_inputs (s : State) : (emitRelease s).inputs = s.inputs := rfl

@[simp] theorem emitResetCall_cfg (s : State) : (emitResetCall s).cfg = s.cfg := rfl
@[simp] theorem emitResetCall_mode (s : State) : (emitResetCall s).mode = s.mode := rfl
@[simp] theorem emitResetCall_rxBuf (s : State) : (emitResetCall s).rxBuf = s.rxBuf := rfl
@[simp] theorem emitResetCall_rxHead (s : State) : (emitResetCall s).rxHead = s.rxHead := rfl
@[simp] theorem emitResetCall_rxTail (s : State) : (emitResetCall s).rxTail = s.rxTail := rfl
@[simp] theorem emitResetCall_rxMark (s : State) : (emitResetCall s).rxMark = s.rxMark := rfl
@[simp] theorem emitResetCall_txBuf (s : State) : (emitResetCall s).txBuf = s.txBuf := rfl
@[simp] theorem emitResetCall_txLen (s : State) : (emitResetCall s).txLen = s.txLen := rfl
@[simp] theorem emitResetCall_txIdx (s : State) : (emitResetCall s).txIdx = s.txIdx := rfl
@[simp] theorem emitResetCall_ackEn (s : State) : (emitResetCall s).ackEn = s.ackEn := rfl
@[simp] theorem emitResetCall_irqEn (s : State) : (emitResetCall s).irqEn = s.irqEn := rfl
@[simp] theorem emitResetCall_busEn (s : State) : (emitResetCall s).busEn = s.busEn := rfl
@[simp] theorem emitResetCall_stopPending (s : State) : (emitResetCall s).stopPending = s.stopPending := rfl
@[simp] theorem emitResetCall_ownAddr (s : State) : (emitResetCall s).ownAddr = s.ownAddr := rfl
@[simp] theorem emitResetCall_errLatch (s : State) : (emitResetCall s).errLatch = s.errLatch := rfl
@[simp] theorem emitResetCall_reqStatus (s : State) : (emitResetCall s).reqStatus = s.reqStatus := rfl
@[simp] theorem emitResetCall_reqCycle (s : State) : (emitResetCall s).reqCycle = s.reqCycle := rfl
@[simp] theorem emitResetCall_reqHold (s : State) : (emitResetCall s).reqHold = s.reqHold := rfl
@[simp] theorem emitResetCall_fgState (s : State) : (emitResetCall s).fgState = s.fgState := rfl
@[simp] theorem emitResetCall_modelFault (s : State) : (emitResetCall s).modelFault = s.modelFault := rfl
@[simp] theorem emitResetCall_out (s : State) : (emitResetCall s).out = { s.out with resetCall := true } := rfl
@[simp] theorem emitResetCall_draws (s : State) : (emitResetCall s).draws = s.draws := rfl
@[simp] theorem emitResetCall_inputs (s : State) : (emitResetCall s).inputs = s.inputs := rfl

@[simp] theorem giveResult_cfg (r : FgResult) (s : State) : (giveResult r s).cfg = s.cfg := rfl
@[simp] theorem giveResult_mode (r : FgResult) (s : State) : (giveResult r s).mode = s.mode := rfl
@[simp] theorem giveResult_rxBuf (r : FgResult) (s : State) : (giveResult r s).rxBuf = s.rxBuf := rfl
@[simp] theorem giveResult_rxHead (r : FgResult) (s : State) : (giveResult r s).rxHead = s.rxHead := rfl
@[simp] theorem giveResult_rxTail (r : FgResult) (s : State) : (giveResult r s).rxTail = s.rxTail := rfl
@[simp] theorem giveResult_rxMark (r : FgResult) (s : State) : (giveResult r s).rxMark = s.rxMark := rfl
@[simp] theorem giveResult_txBuf (r : FgResult) (s : State) : (giveResult r s).txBuf = s.txBuf := rfl
@[simp] theorem giveResult_txLen (r : FgResult) (s : State) : (giveResult r s).txLen = s.txLen := rfl
@[simp] theorem giveResult_txIdx (r : FgResult) (s : State) : (giveResult r s).txIdx = s.txIdx := rfl
@[simp] theorem giveResult_ackEn (r : FgResult) (s : State) : (giveResult r s).ackEn = s.ackEn := rfl
@[simp] theorem giveResult_irqEn (r : FgResult) (s : State) : (giveResult r s).irqEn = s.irqEn := rfl
@[simp] theorem giveResult_busEn (r : FgResult) (s : State) : (giveResult r s).busEn = s.busEn := rfl
@[simp] theorem giveResult_stopPending (r : FgResult) (s : State) : (giveResult r s).stopPending = s.stopPending := rfl
@[simp] theorem giveResult_ownAddr (r : FgResult) (s : State) : (giveResult r s).ownAddr = s.ownAddr := rfl
@[simp] theorem giveResult_errLatch (r : FgResult) (s : State) : (giveResult r s).errLatch = s.errLatch := rfl
@[simp] theorem giveResult_reqStatus (r : FgResult) (s : State) : (giveResult r s).reqStatus = s.reqStatus := rfl
@[simp] theorem giveResult_reqCycle (r : FgResult) (s : State) : (giveResult r s).reqCycle = s.reqCycle := rfl
@[simp] theorem giveResult_reqHold (r : FgResult) (s : State) : (giveResult r s).reqHold = s.reqHold := rfl
@[simp] theorem giveResult_fgState (r : FgResult) (s : State) : (giveResult r s).fgState = s.fgState := rfl
@[simp] theorem giveResult_modelFault (r : FgResult) (s : State) : (giveResult r s).modelFault = s.modelFault := rfl
@[simp] theorem giveResult_out (r : FgResult) (s : State) : (giveResult r s).out = { s.out with result := r } := rfl
@[simp] theorem giveResult_draws (r : FgResult) (s : State) : (giveResult r s).draws = s.draws := rfl
@[simp] theorem giveResult_inputs (r : FgResult) (s : State) : (giveResult r s).inputs = s.inputs := rfl

@[simp] theorem stopSeq_cfg (s : State) : (stopSeq s).cfg = s.cfg := rfl
@[simp] theorem stopSeq_mode (s : State) : (stopSeq s).mode = s.mode := rfl
@[simp] theorem stopSeq_rxBuf (s : State) : (stopSeq s).rxBuf = s.rxBuf := rfl
@[simp] theorem stopSeq_rxHead (s : State) : (stopSeq s).rxHead = s.rxHead := rfl
@[simp] theorem stopSeq_rxTail (s : State) : (stopSeq s).rxTail = s.rxTail := rfl
@[simp] theorem stopSeq_rxMark (s : State) : (stopSeq s).rxMark = s.rxMark := rfl
@[simp] theorem stopSeq_txBuf (s : State) : (stopSeq s).txBuf = s.txBuf := rfl
@[simp] theorem stopSeq_txLen (s : State) : (stopSeq s).txLen = s.txLen := rfl
@[simp] theorem stopSeq_txIdx (s : State) : (stopSeq s).txIdx = s.txIdx := rfl
@[simp] theorem stopSeq_ackEn (s : State) : (stopSeq s).ackEn = true := rfl
@[simp] theorem stopSeq_irqEn (s : State) : (stopSeq s).irqEn = s.irqEn := rfl
@[simp] theorem stopSeq_busEn (s : State) : (stopSeq s).busEn = s.busEn := rfl
@[simp] theorem stopSeq_stopPending (s : State) : (stopSeq s).stopPending = true := rfl
@[simp] theorem stopSeq_ownAddr (s : State) : (stopSeq s).ownAddr = s.ownAddr := rfl
@[simp] theorem stopSeq_errLatch (s : State) : (stopSeq s).errLatch = s.errLatch := rfl
@[simp] theorem stopSeq_reqStatus (s : State) : (stopSeq s).reqStatus = s.reqStatus := rfl
@[simp] theorem stopSeq_reqCycle (s : State) : (stopSeq s).reqCycle = s.reqCycle := rfl
@[simp] theorem stopSeq_reqHold (s : State) : (stopSeq s).reqHold = s.reqHold := rfl
@[simp] theorem stopSeq_fgState (s : State) : (stopSeq s).fgState = s.fgState := rfl
@[simp] theorem stopSeq_modelFault (s : State) : (stopSeq s).modelFault = s.modelFault := rfl
@[simp] theorem stopSeq_out (s : State) : (stopSeq s).out = { s.out with stopReq := true } := rfl
@[simp] theorem stopSeq_draws (s : State) : (stopSeq s).draws = s.draws := rfl
@[simp] theorem stopSeq_inputs (s : State) : (stopSeq s).inputs = s.inputs := rfl

@[simp] theorem rewind_cfg (s : State) : (rewind s).cfg = s.cfg := rfl
@[simp] theorem rewind_mode (s : State) : (rewind s).mode = s.mode := rfl
@[simp] theorem rewind_rxBuf (s : State) : (rewind s).rxBuf = s.rxBuf := rfl
@[simp] theorem rewind_rxHead (s : State) : (rewind s).rxHead = s.rxHead := rfl
@[simp] theorem rewind_rxTail (s : State) : (rewind s).rxTail = s.rxMark := rfl
@[simp] theorem rewind_rxMark (s : State) : (rewind s).rxMark = s.rxMark := rfl
@[simp] theorem rewind_txBuf (s : State) : (rewind s).txBuf = s.txBuf := rfl
@[simp] theorem rewind_txLen (s : State) : (rewind s).txLen = s.txLen := rfl
@[simp] theorem rewind_txIdx (s : State) : (rewind s).txIdx = s.txIdx := rfl
@[simp] theorem rewind_ackEn (s : State) : (rewind s).ackEn = s.ackEn := rfl
@[simp] theorem rewind_irqEn (s : State) : (rewind s).irqEn = s.irqEn := rfl
@[simp] theorem rewind_busEn (s : State) : (rewind s).busEn = s.busEn := rfl
@[simp] theorem rewind_stopPending (s : State) : (rewind s).stopPending = s.stopPending := rfl
@[simp] theorem rewind_ownAddr (s : State) : (rewind s).ownAddr = s.ownAddr := rfl
@[simp] theorem rewind_errLatch (s : State) : (rewind s).errLatch = s.errLatch := rfl
@[simp] theorem rewind_reqStatus (s : State) : (rewind s).reqStatus = s.reqStatus := rfl
@[simp] theorem rewind_reqCycle (s : State) : (rewind s).reqCycle = s.reqCycle := rfl
@[simp] theorem rewind_reqHold (s : State) : (rewind s).reqHold = s.reqHold := rfl
@[simp] theorem rewind_fgState (s : State) : (rewind s).fgState = s.fgState := rfl
@[simp] theorem rewind_modelFault (s : State) : (rewind s).modelFault = s.modelFault := rfl
@[simp] theorem rewind_out (s : State) : (rewind s).out = s.out := rfl
@[simp] theorem rewind_draws (s : State) : (rewind s).draws = s.draws := rfl
@[simp] theorem rewind_inputs (s : State) : (rewind s).inputs = s.inputs := rfl

@[simp] theorem recoverFromBusError_cfg (c : Byte) (s : State) : (recoverFromBusError c s).cfg = s.cfg := rfl
@[simp] theorem recoverFromBusError_mode (c : Byte) (s : State) : (recoverFromBusError c s).mode = .ready := rfl
@[simp] theorem recoverFromBusError_rxBuf (c : Byte) (s : State) : (recoverFromBusError c s).rxBuf = s.rxBuf := rfl
@[simp] theorem recoverFromBusError_rxHead (c : Byte) (s : State) : (recoverFromBusError c s).rxHead = s.rxHead := rfl
@[simp] theorem recoverFromBusError_rxTail (c : Byte) (s : State) : (recoverFromBusError c s).rxTail = s.rxTail := rfl
@[simp] theorem recoverFromBusError_rxMark (c : Byte) (s : State) : (recoverFromBusError c s).rxMark = s.rxMark := rfl
@[simp] theorem recoverFromBusError_txBuf (c : Byte) (s : State) : (recoverFromBusError c s).txBuf = s.txBuf := rfl
@[simp] theorem recoverFromBusError_txLen (c : Byte) (s : State) : (recoverFromBusError c s).txLen = s.txLen := rfl
@[simp] theorem recoverFromBusError_txIdx (c : Byte) (s : State) : (recoverFromBusError c s).txIdx = s.txIdx := rfl
@[simp] theorem recoverFromBusError_ackEn (c : Byte) (s : State) : (recoverFromBusError c s).ackEn = true := rfl
@[simp] theorem recoverFromBusError_irqEn (c : Byte) (s : State) : (recoverFromBusError c s).irqEn = s.irqEn := rfl
@[simp] theorem recoverFromBusError_busEn (c : Byte) (s : State) : (recoverFromBusError c s).busEn = s.busEn := rfl
@[simp] theorem recoverFromBusError_stopPending (c : Byte) (s : State) : (recoverFromBusError c s).stopPending = true := rfl
@[simp] theorem recoverFromBusError_ownAddr (c : Byte) (s : State) : (recoverFromBusError c s).ownAddr = s.ownAddr := rfl
@[simp] theorem recoverFromBusError_errLatch (c : Byte) (s : State) : (recoverFromBusError c s).errLatch = c := rfl
@[simp] theorem recoverFromBusError_reqStatus (c : Byte) (s : State) : (recoverFromBusError c s).reqStatus = s.reqStatus := rfl
@[simp] theorem recoverFromBusError_reqCycle (c : Byte) (s : State) : (recoverFromBusError c s).reqCycle = s.reqCycle := rfl
@[simp] theorem recoverFromBusError_reqHold (c : Byte) (s : State) : (recoverFromBusError c s).reqHold = s.reqHold := rfl
@[simp] theorem recoverFromBusError_fgState (c : Byte) (s : State) : (recoverFromBusError c s).fgState = s.fgState := rfl
@[simp] theorem recoverFromBusError_modelFault (c : Byte) (s : State) : (recoverFromBusError c s).modelFault = s.modelFault := rfl
@[simp] theorem recoverFromBusError_out (c : Byte) (s : State) : (recoverFromBusError c s).out = { s.out with stopReq := true } := rfl
@[simp] theorem recoverFromBusError_draws (c : Byte) (s : State) : (recoverFromBusError c s).draws = s.draws := rfl
@[simp] theorem recoverFromBusError_inputs (c : Byte) (s : State) : (recoverFromBusError c s).inputs = s.inputs := rfl

@[simp] theorem ackIfRoom_cfg (s : State) : (ackIfRoom s).cfg = s.cfg := rfl
@[simp] theorem ackIfRoom_mode (s : State) : (ackIfRoom s).mode = s.mode := rfl
@[simp] theorem ackIfRoom_rxBuf (s : State) : (ackIfRoom s).rxBuf = s.rxBuf := rfl
@[simp] theorem ackIfRoom_rxHead (s : State) : (ackIfRoom s).rxHead = s.rxHead := rfl
@[simp] theorem ackIfRoom_rxTail (s : State) : (ackIfRoom s).rxTail = s.rxTail := rfl
@[simp] theorem ackIfRoom_rxMark (s : State) : (ackIfRoom s).rxMark = s.rxMark := rfl
@[simp] theorem ackIfRoom_txBuf (s : State) : (ackIfRoom s).txBuf = s.txBuf := rfl
@[simp] theorem ackIfRoom_txLen (s : State) : (ackIfRoom s).txLen = s.txLen := rfl
@[simp] theorem ackIfRoom_txIdx (s : State) : (ackIfRoom s).txIdx = s.txIdx := rfl
@[simp] theorem ackIfRoom_ackEn (s : State) : (ackIfRoom s).ackEn = !rxFull s := rfl
@[simp] theorem ackIfRoom_irqEn (s : State) : (ackIfRoom s).irqEn = s.irqEn := rfl
@[simp] theorem ackIfRoom_busEn (s : State) : (ackIfRoom s).busEn = s.busEn := rfl
@[simp] theorem ackIfRoom_stopPending (s : State) : (ackIfRoom s).stopPending = s.stopPending := rfl
@[simp] theorem ackIfRoom_ownAddr (s : State) : (ackIfRoom s).ownAddr = s.ownAddr := rfl
@[simp] theorem ackIfRoom_errLatch (s : State) : (ackIfRoom s).errLatch = s.errLatch := rfl
@[simp] theorem ackIfRoom_reqStatus (s : State) : (ackIfRoom s).reqStatus = s.reqStatus := rfl
@[simp] theorem ackIfRoom_reqCycle (s : State) : (ackIfRoom s).reqCycle = s.reqCycle := rfl
@[simp] theorem ackIfRoom_reqHold (s : State) : (ackIfRoom s).reqHold = s.reqHold := rfl
@[simp] theorem ackIfRoom_fgState (s : State) : (ackIfRoom s).fgState = s.fgState := rfl
@[simp] theorem ackIfRoom_modelFault (s : State) : (ackIfRoom s).modelFault = s.modelFault := rfl
@[simp] theorem ackIfRoom_out (s : State) : (ackIfRoom s).out = s.out := rfl
@[simp] theorem ackIfRoom_draws (s : State) : (ackIfRoom s).draws = s.draws := rfl
@[simp] theorem ackIfRoom_inputs (s : State) : (ackIfRoom s).inputs = s.inputs := rfl

@[simp] theorem ackIfStaged_cfg (s : State) : (ackIfStaged s).cfg = s.cfg := rfl
@[simp] theorem ackIfStaged_mode (s : State) : (ackIfStaged s).mode = s.mode := rfl
@[simp] theorem ackIfStaged_rxBuf (s : State) : (ackIfStaged s).rxBuf = s.rxBuf := rfl
@[simp] theorem ackIfStaged_rxHead (s : State) : (ackIfStaged s).rxHead = s.rxHead := rfl
@[simp] theorem ackIfStaged_rxTail (s : State) : (ackIfStaged s).rxTail = s.rxTail := rfl
@[simp] theorem ackIfStaged_rxMark (s : State) : (ackIfStaged s).rxMark = s.rxMark := rfl
@[simp] theorem ackIfStaged_txBuf (s : State) : (ackIfStaged s).txBuf = s.txBuf := rfl
@[simp] theorem ackIfStaged_txLen (s : State) : (ackIfStaged s).txLen = s.txLen := rfl
@[simp] theorem ackIfStaged_txIdx (s : State) : (ackIfStaged s).txIdx = s.txIdx := rfl
@[simp] theorem ackIfStaged_ackEn (s : State) : (ackIfStaged s).ackEn = decide (s.txIdx < s.txLen) := rfl
@[simp] theorem ackIfStaged_irqEn (s : State) : (ackIfStaged s).irqEn = s.irqEn := rfl
@[simp] theorem ackIfStaged_busEn (s : State) : (ackIfStaged s).busEn = s.busEn := rfl
@[simp] theorem ackIfStaged_stopPending (s : State) : (ackIfStaged s).stopPending = s.stopPending := rfl
@[simp] theorem ackIfStaged_ownAddr (s : State) : (ackIfStaged s).ownAddr = s.ownAddr := rfl
@[simp] theorem ackIfStaged_errLatch (s : State) : (ackIfStaged s).errLatch = s.errLatch := rfl
@[simp] theorem ackIfStaged_reqStatus (s : State) : (ackIfStaged s).reqStatus = s.reqStatus := rfl
@[simp] theorem ackIfStaged_reqCycle (s : State) : (ackIfStaged s).reqCycle = s.reqCycle := rfl
@[simp] theorem ackIfStaged_reqHold (s : State) : (ackIfStaged s).reqHold = s.reqHold := rfl
@[simp] theorem ackIfStaged_fgState (s : State) : (ackIfStaged s).fgState = s.fgState := rfl
@[simp] theorem ackIfStaged_modelFault (s : State) : (ackIfStaged s).modelFault = s.modelFault := rfl
@[simp] theorem ackIfStaged_out (s : State) : (ackIfStaged s).out = s.out := rfl
@[simp] theorem ackIfStaged_draws (s : State) : (ackIfStaged s).draws = s.draws := rfl
@[simp] theorem ackIfStaged_inputs (s : State) : (ackIfStaged s).inputs = s.inputs := rfl

@[simp] theorem initRegisters_cfg (a : BitVec 7) (s : State) : (initRegisters a s).cfg = s.cfg := rfl
@[simp] theorem initRegisters_mode (a : BitVec 7) (s : State) : (initRegisters a s).mode = .ready := rfl
@[simp] theorem initRegisters_rxBuf (a : BitVec 7) (s : State) : (initRegisters a s).rxBuf = s.rxBuf := rfl
@[simp] theorem initRegisters_rxHead (a : BitVec 7) (s : State) : (initRegisters a s).rxHead = 0 := rfl
@[simp] theorem initRegisters_rxTail (a : BitVec 7) (s : State) : (initRegisters a s).rxTail = 0 := rfl
@[simp] theorem initRegisters_rxMark (a : BitVec 7) (s : State) : (initRegisters a s).rxMark = 0 := rfl
@[simp] theorem initRegisters_txBuf (a : BitVec 7) (s : State) : (initRegisters a s).txBuf = s.txBuf := rfl
@[simp] theorem initRegisters_txLen (a : BitVec 7) (s : State) : (initRegisters a s).txLen = 0 := rfl
@[simp] theorem initRegisters_txIdx (a : BitVec 7) (s : State) : (initRegisters a s).txIdx = 0 := rfl
@[simp] theorem initRegisters_ackEn (a : BitVec 7) (s : State) : (initRegisters a s).ackEn = true := rfl
@[simp] theorem initRegisters_irqEn (a : BitVec 7) (s : State) : (initRegisters a s).irqEn = true := rfl
@[simp] theorem initRegisters_busEn (a : BitVec 7) (s : State) : (initRegisters a s).busEn = true := rfl
@[simp] theorem initRegisters_stopPending (a : BitVec 7) (s : State) : (initRegisters a s).stopPending = s.stopPending := rfl
@[simp] theorem initRegisters_ownAddr (a : BitVec 7) (s : State) : (initRegisters a s).ownAddr = a := rfl
@[simp] theorem initRegisters_errLatch (a : BitVec 7) (s : State) : (initRegisters a s).errLatch = errNone := rfl
@[simp] theorem initRegisters_reqStatus (a : BitVec 7) (s : State) : (initRegisters a s).reqStatus = s.reqStatus := rfl
@[simp] theorem initRegisters_reqCycle (a : BitVec 7) (s : State) : (initRegisters a s).reqCycle = s.reqCycle := rfl
@[simp] theorem initRegisters_reqHold (a : BitVec 7) (s : State) : (initRegisters a s).reqHold = s.reqHold := rfl
@[simp] theorem initRegisters_fgState (a : BitVec 7) (s : State) : (initRegisters a s).fgState = s.fgState := rfl
@[simp] theorem initRegisters_modelFault (a : BitVec 7) (s : State) : (initRegisters a s).modelFault = s.modelFault := rfl
@[simp] theorem initRegisters_out (a : BitVec 7) (s : State) : (initRegisters a s).out = s.out := rfl
@[simp] theorem initRegisters_draws (a : BitVec 7) (s : State) : (initRegisters a s).draws = s.draws := rfl
@[simp] theorem initRegisters_inputs (a : BitVec 7) (s : State) : (initRegisters a s).inputs = s.inputs := rfl

@[simp] theorem setRequestFlag_cfg (k : RequestFlag) (v : Bool) (s : State) : (setRequestFlag k v s).cfg = s.cfg := by cases k <;> rfl
@[simp] theorem setRequestFlag_mode (k : RequestFlag) (v : Bool) (s : State) : (setRequestFlag k v s).mode = s.mode := by cases k <;> rfl
@[simp] theorem setRequestFlag_rxBuf (k : RequestFlag) (v : Bool) (s : State) : (setRequestFlag k v s).rxBuf = s.rxBuf := by cases k <;> rfl
@[simp] theorem setRequestFlag_rxHead (k : RequestFlag) (v : Bool) (s : State) : (setRequestFlag k v s).rxHead = s.rxHead := by cases k <;> rfl
@[simp] theorem setRequestFlag_rxTail (k : RequestFlag) (v : Bool) (s : State) : (setRequestFlag k v s).rxTail = s.rxTail := by cases k <;> rfl
@[simp] theorem setRequestFlag_rxMark (k : RequestFlag) (v : Bool) (s : State) : (setRequestFlag k v s).rxMark = s.rxMark := by cases k <;> rfl
@[simp] theorem setRequestFlag_txBuf (k : RequestFlag) (v : Bool) (s : State) : (setRequestFlag k v s).txBuf = s.txBuf := by cases k <;> rfl
@[simp] theorem setRequestFlag_txLen (k : RequestFlag) (v : Bool) (s : State) : (setRequestFlag k v s).txLen = s.txLen := by cases k <;> rfl
@[simp] theorem setRequestFlag_txIdx (k : RequestFlag) (v : Bool) (s : State) : (setRequestFlag k v s).txIdx = s.txIdx := by cases k <;> rfl
@[simp] theorem setRequestFlag_ackEn (k : RequestFlag) (v : Bool) (s : State) : (setRequestFlag k v s).ackEn = s.ackEn := by cases k <;> rfl
@[simp] theorem setRequestFlag_irqEn (k : RequestFlag) (v : Bool) (s : State) : (setRequestFlag k v s).irqEn = s.irqEn := by cases k <;> rfl
@[simp] theorem setRequestFlag_busEn (k : RequestFlag) (v : Bool) (s : State) : (setRequestFlag k v s).busEn = s.busEn := by cases k <;> rfl
@[simp] theorem setRequestFlag_stopPending (k : RequestFlag) (v : Bool) (s : State) : (setRequestFlag k v s).stopPending = s.stopPending := by cases k <;> rfl
@[simp] theorem setRequestFlag_ownAddr (k : RequestFlag) (v : Bool) (s : State) : (setRequestFlag k v s).ownAddr = s.ownAddr := by cases k <;> rfl
@[simp] theorem setRequestFlag_errLatch (k : RequestFlag) (v : Bool) (s : State) : (setRequestFlag k v s).errLatch = s.errLatch := by cases k <;> rfl
@[simp] theorem setRequestFlag_reqStatus (k : RequestFlag) (v : Bool) (s : State) : (setRequestFlag k v s).reqStatus = (match k with | .status => v | .cycle => s.reqStatus | .hold => s.reqStatus) := by cases k <;> rfl
@[simp] theorem setRequestFlag_reqCycle (k : RequestFlag) (v : Bool) (s : State) : (setRequestFlag k v s).reqCycle = (match k with | .status => s.reqCycle | .cycle => v | .hold => s.reqCycle) := by cases k <;> rfl
@[simp] theorem setRequestFlag_reqHold (k : RequestFlag) (v : Bool) (s : State) : (setRequestFlag k v s).reqHold = (match k with | .status => s.reqHold | .cycle => s.reqHold | .hold => v) := by cases k <;> rfl
@[simp] theorem setRequestFlag_fgState (k : RequestFlag) (v : Bool) (s : State) : (setRequestFlag k v s).fgState = s.fgState := by cases k <;> rfl
@[simp] theorem setRequestFlag_modelFault (k : RequestFlag) (v : Bool) (s : State) : (setRequestFlag k v s).modelFault = s.modelFault := by cases k <;> rfl
@[simp] theorem setRequestFlag_out (k : RequestFlag) (v : Bool) (s : State) : (setRequestFlag k v s).out = s.out := by cases k <;> rfl
@[simp] theorem setRequestFlag_draws (k : RequestFlag) (v : Bool) (s : State) : (setRequestFlag k v s).draws = s.draws := by cases k <;> rfl
@[simp] theorem setRequestFlag_inputs (k : RequestFlag) (v : Bool) (s : State) : (setRequestFlag k v s).inputs = s.inputs := by cases k <;> rfl

@[simp] theorem setSpaceMem_cfg (sp : Config.Space) (m : Memory) (s : State) : (setSpaceMem sp m s).cfg = s.cfg := by cases sp <;> rfl
@[simp] theorem setSpaceMem_mode (sp : Config.Space) (m : Memory) (s : State) : (setSpaceMem sp m s).mode = s.mode := by cases sp <;> rfl
@[simp] theorem setSpaceMem_rxBuf (sp : Config.Space) (m : Memory) (s : State) : (setSpaceMem sp m s).rxBuf = (match sp with | .rx => m | .tx => s.rxBuf) := by cases sp <;> rfl
@[simp] theorem setSpaceMem_rxHead (sp : Config.Space) (m : Memory) (s : State) : (setSpaceMem sp m s).rxHead = s.rxHead := by cases sp <;> rfl
@[simp] theorem setSpaceMem_rxTail (sp : Config.Space) (m : Memory) (s : State) : (setSpaceMem sp m s).rxTail = s.rxTail := by cases sp <;> rfl
@[simp] theorem setSpaceMem_rxMark (sp : Config.Space) (m : Memory) (s : State) : (setSpaceMem sp m s).rxMark = s.rxMark := by cases sp <;> rfl
@[simp] theorem setSpaceMem_txBuf (sp : Config.Space) (m : Memory) (s : State) : (setSpaceMem sp m s).txBuf = (match sp with | .rx => s.txBuf | .tx => m) := by cases sp <;> rfl
@[simp] theorem setSpaceMem_txLen (sp : Config.Space) (m : Memory) (s : State) : (setSpaceMem sp m s).txLen = s.txLen := by cases sp <;> rfl
@[simp] theorem setSpaceMem_txIdx (sp : Config.Space) (m : Memory) (s : State) : (setSpaceMem sp m s).txIdx = s.txIdx := by cases sp <;> rfl
@[simp] theorem setSpaceMem_ackEn (sp : Config.Space) (m : Memory) (s : State) : (setSpaceMem sp m s).ackEn = s.ackEn := by cases sp <;> rfl
@[simp] theorem setSpaceMem_irqEn (sp : Config.Space) (m : Memory) (s : State) : (setSpaceMem sp m s).irqEn = s.irqEn := by cases sp <;> rfl
@[simp] theorem setSpaceMem_busEn (sp : Config.Space) (m : Memory) (s : State) : (setSpaceMem sp m s).busEn = s.busEn := by cases sp <;> rfl
@[simp] theorem setSpaceMem_stopPending (sp : Config.Space) (m : Memory) (s : State) : (setSpaceMem sp m s).stopPending = s.stopPending := by cases sp <;> rfl
@[simp] theorem setSpaceMem_ownAddr (sp : Config.Space) (m : Memory) (s : State) : (setSpaceMem sp m s).ownAddr = s.ownAddr := by cases sp <;> rfl
@[simp] theorem setSpaceMem_errLatch (sp : Config.Space) (m : Memory) (s : State) : (setSpaceMem sp m s).errLatch = s.errLatch := by cases sp <;> rfl
@[simp] theorem setSpaceMem_reqStatus (sp : Config.Space) (m : Memory) (s : State) : (setSpaceMem sp m s).reqStatus = s.reqStatus := by cases sp <;> rfl
@[simp] theorem setSpaceMem_reqCycle (sp : Config.Space) (m : Memory) (s : State) : (setSpaceMem sp m s).reqCycle = s.reqCycle := by cases sp <;> rfl
@[simp] theorem setSpaceMem_reqHold (sp : Config.Space) (m : Memory) (s : State) : (setSpaceMem sp m s).reqHold = s.reqHold := by cases sp <;> rfl
@[simp] theorem setSpaceMem_fgState (sp : Config.Space) (m : Memory) (s : State) : (setSpaceMem sp m s).fgState = s.fgState := by cases sp <;> rfl
@[simp] theorem setSpaceMem_modelFault (sp : Config.Space) (m : Memory) (s : State) : (setSpaceMem sp m s).modelFault = s.modelFault := by cases sp <;> rfl
@[simp] theorem setSpaceMem_out (sp : Config.Space) (m : Memory) (s : State) : (setSpaceMem sp m s).out = s.out := by cases sp <;> rfl
@[simp] theorem setSpaceMem_draws (sp : Config.Space) (m : Memory) (s : State) : (setSpaceMem sp m s).draws = s.draws := by cases sp <;> rfl
@[simp] theorem setSpaceMem_inputs (sp : Config.Space) (m : Memory) (s : State) : (setSpaceMem sp m s).inputs = s.inputs := by cases sp <;> rfl

@[simp] theorem raiseModelFault_cfg (r : ModelFault) (s : State) : (raiseModelFault r s).cfg = s.cfg := by unfold raiseModelFault; split <;> rfl
@[simp] theorem raiseModelFault_mode (r : ModelFault) (s : State) : (raiseModelFault r s).mode = s.mode := by unfold raiseModelFault; split <;> rfl
@[simp] theorem raiseModelFault_rxBuf (r : ModelFault) (s : State) : (raiseModelFault r s).rxBuf = s.rxBuf := by unfold raiseModelFault; split <;> rfl
@[simp] theorem raiseModelFault_rxHead (r : ModelFault) (s : State) : (raiseModelFault r s).rxHead = s.rxHead := by unfold raiseModelFault; split <;> rfl
@[simp] theorem raiseModelFault_rxTail (r : ModelFault) (s : State) : (raiseModelFault r s).rxTail = s.rxTail := by unfold raiseModelFault; split <;> rfl
@[simp] theorem raiseModelFault_rxMark (r : ModelFault) (s : State) : (raiseModelFault r s).rxMark = s.rxMark := by unfold raiseModelFault; split <;> rfl
@[simp] theorem raiseModelFault_txBuf (r : ModelFault) (s : State) : (raiseModelFault r s).txBuf = s.txBuf := by unfold raiseModelFault; split <;> rfl
@[simp] theorem raiseModelFault_txLen (r : ModelFault) (s : State) : (raiseModelFault r s).txLen = s.txLen := by unfold raiseModelFault; split <;> rfl
@[simp] theorem raiseModelFault_txIdx (r : ModelFault) (s : State) : (raiseModelFault r s).txIdx = s.txIdx := by unfold raiseModelFault; split <;> rfl
@[simp] theorem raiseModelFault_ackEn (r : ModelFault) (s : State) : (raiseModelFault r s).ackEn = s.ackEn := by unfold raiseModelFault; split <;> rfl
@[simp] theorem raiseModelFault_irqEn (r : ModelFault) (s : State) : (raiseModelFault r s).irqEn = s.irqEn := by unfold raiseModelFault; split <;> rfl
@[simp] theorem raiseModelFault_busEn (r : ModelFault) (s : State) : (raiseModelFault r s).busEn = s.busEn := by unfold raiseModelFault; split <;> rfl
@[simp] theorem raiseModelFault_stopPending (r : ModelFault) (s : State) : (raiseModelFault r s).stopPending = s.stopPending := by unfold raiseModelFault; split <;> rfl
@[simp] theorem raiseModelFault_ownAddr (r : ModelFault) (s : State) : (raiseModelFault r s).ownAddr = s.ownAddr := by unfold raiseModelFault; split <;> rfl
@[simp] theorem raiseModelFault_errLatch (r : ModelFault) (s : State) : (raiseModelFault r s).errLatch = s.errLatch := by unfold raiseModelFault; split <;> rfl
@[simp] theorem raiseModelFault_reqStatus (r : ModelFault) (s : State) : (raiseModelFault r s).reqStatus = s.reqStatus := by unfold raiseModelFault; split <;> rfl
@[simp] theorem raiseModelFault_reqCycle (r : ModelFault) (s : State) : (raiseModelFault r s).reqCycle = s.reqCycle := by unfold raiseModelFault; split <;> rfl
@[simp] theorem raiseModelFault_reqHold (r : ModelFault) (s : State) : (raiseModelFault r s).reqHold = s.reqHold := by unfold raiseModelFault; split <;> rfl
@[simp] theorem raiseModelFault_fgState (r : ModelFault) (s : State) : (raiseModelFault r s).fgState = s.fgState := by unfold raiseModelFault; split <;> rfl
@[simp] theorem raiseModelFault_modelFault (r : ModelFault) (s : State) : (raiseModelFault r s).modelFault = (if r ∈ s.modelFault then s.modelFault else r :: s.modelFault) := by unfold raiseModelFault; split <;> rfl
@[simp] theorem raiseModelFault_out (r : ModelFault) (s : State) : (raiseModelFault r s).out = s.out := by unfold raiseModelFault; split <;> rfl
@[simp] theorem raiseModelFault_draws (r : ModelFault) (s : State) : (raiseModelFault r s).draws = s.draws := by unfold raiseModelFault; split <;> rfl
@[simp] theorem raiseModelFault_inputs (r : ModelFault) (s : State) : (raiseModelFault r s).inputs = s.inputs := by unfold raiseModelFault; split <;> rfl

@[simp] theorem markMidTransaction_cfg (s : State) : (markMidTransaction s).cfg = s.cfg := by cases h : s.mode <;> simp [markMidTransaction, h]
@[simp] theorem markMidTransaction_mode (s : State) : (markMidTransaction s).mode = s.mode := by cases h : s.mode <;> simp [markMidTransaction, h]
@[simp] theorem markMidTransaction_rxBuf (s : State) : (markMidTransaction s).rxBuf = s.rxBuf := by cases h : s.mode <;> simp [markMidTransaction, h]
@[simp] theorem markMidTransaction_rxHead (s : State) : (markMidTransaction s).rxHead = s.rxHead := by cases h : s.mode <;> simp [markMidTransaction, h]
@[simp] theorem markMidTransaction_rxTail (s : State) : (markMidTransaction s).rxTail = s.rxTail := by cases h : s.mode <;> simp [markMidTransaction, h]
@[simp] theorem markMidTransaction_rxMark (s : State) : (markMidTransaction s).rxMark = s.rxMark := by cases h : s.mode <;> simp [markMidTransaction, h]
@[simp] theorem markMidTransaction_txBuf (s : State) : (markMidTransaction s).txBuf = s.txBuf := by cases h : s.mode <;> simp [markMidTransaction, h]
@[simp] theorem markMidTransaction_txLen (s : State) : (markMidTransaction s).txLen = s.txLen := by cases h : s.mode <;> simp [markMidTransaction, h]
@[simp] theorem markMidTransaction_txIdx (s : State) : (markMidTransaction s).txIdx = s.txIdx := by cases h : s.mode <;> simp [markMidTransaction, h]
@[simp] theorem markMidTransaction_ackEn (s : State) : (markMidTransaction s).ackEn = s.ackEn := by cases h : s.mode <;> simp [markMidTransaction, h]
@[simp] theorem markMidTransaction_irqEn (s : State) : (markMidTransaction s).irqEn = s.irqEn := by cases h : s.mode <;> simp [markMidTransaction, h]
@[simp] theorem markMidTransaction_busEn (s : State) : (markMidTransaction s).busEn = s.busEn := by cases h : s.mode <;> simp [markMidTransaction, h]
@[simp] theorem markMidTransaction_stopPending (s : State) : (markMidTransaction s).stopPending = s.stopPending := by cases h : s.mode <;> simp [markMidTransaction, h]
@[simp] theorem markMidTransaction_ownAddr (s : State) : (markMidTransaction s).ownAddr = s.ownAddr := by cases h : s.mode <;> simp [markMidTransaction, h]
@[simp] theorem markMidTransaction_errLatch (s : State) : (markMidTransaction s).errLatch = s.errLatch := by cases h : s.mode <;> simp [markMidTransaction, h]
@[simp] theorem markMidTransaction_reqStatus (s : State) : (markMidTransaction s).reqStatus = s.reqStatus := by cases h : s.mode <;> simp [markMidTransaction, h]
@[simp] theorem markMidTransaction_reqCycle (s : State) : (markMidTransaction s).reqCycle = s.reqCycle := by cases h : s.mode <;> simp [markMidTransaction, h]
@[simp] theorem markMidTransaction_reqHold (s : State) : (markMidTransaction s).reqHold = s.reqHold := by cases h : s.mode <;> simp [markMidTransaction, h]
@[simp] theorem markMidTransaction_fgState (s : State) : (markMidTransaction s).fgState = s.fgState := by cases h : s.mode <;> simp [markMidTransaction, h]
@[simp] theorem markMidTransaction_out (s : State) : (markMidTransaction s).out = s.out := by cases h : s.mode <;> simp [markMidTransaction, h]
@[simp] theorem markMidTransaction_draws (s : State) : (markMidTransaction s).draws = s.draws := by cases h : s.mode <;> simp [markMidTransaction, h]
@[simp] theorem markMidTransaction_inputs (s : State) : (markMidTransaction s).inputs = s.inputs := by cases h : s.mode <;> simp [markMidTransaction, h]

end Sys2Proof.Machine
end

