-- ==== Sys2Proof/Laws/Ops.lean ====
section
/-! SUPPORT. One lemma for each shared operation: everything it can do. Later proofs cite these and unfold no operation. -/

namespace Sys2Proof.Machine

variable {s t : State}

/-- A storage read answers the byte at an existing index. -/
theorem memRead_eq_ok {sp : Config.Space} {i : Nat} {b : Byte} :
    memRead sp i s = .ok b ↔ i < spaceSize sp s ∧ b = byteAt sp i s := by
  unfold memRead
  split <;> simp_all [eq_comm]

/-- A storage write answers the state with that one byte written, at an existing index. -/
theorem memWrite_eq_ok {sp : Config.Space} {i : Nat} {b : Byte} :
    memWrite sp i b s = .ok t ↔
      i < spaceSize sp s ∧ t = setSpaceMem sp (Memory.write i b (spaceMem sp s)) s := by
  unfold memWrite
  split <;> simp_all [eq_comm]

/-- `push` drops the byte of a full ring, or stores it at `RX_HEAD` and moves the index. -/
theorem push_cases {b : Byte} {ok : Bool} (h : push b s = .ok (ok, t)) :
    (rxFull s = true ∧ ok = false ∧ t = s) ∨
    (rxFull s = false ∧ ok = true ∧ s.rxHead < s.cfg.nRx ∧
      t = { s with rxBuf := Memory.write s.rxHead b s.rxBuf, rxHead := nextIndex s.cfg.nRx s.rxHead }) := by
  unfold push at h
  split at h
  · rename_i hf
    simp only [Except.ok.injEq, Prod.mk.injEq] at h
    exact .inl ⟨hf, h.1.symm, h.2.symm⟩
  · rename_i hf
    split at h
    · rename_i u hu
      obtain ⟨hi, rfl⟩ := memWrite_eq_ok.1 hu
      simp only [Except.ok.injEq, Prod.mk.injEq] at h
      exact .inr ⟨by simpa using hf, h.1.symm, hi, h.2.symm⟩
    · simp at h

/-- `push` completes whenever `RX_HEAD` is a slot. -/
theorem push_completes (b : Byte) (h : s.rxHead < s.cfg.nRx) : ∃ r, push b s = .ok r := by
  unfold push
  split
  · exact ⟨_, rfl⟩
  · simp [memWrite, spaceSize, h]

/-- `pop` leaves an empty ring, or answers the byte at `RX_TAIL` and moves the index. -/
theorem pop_cases {r : Option Byte} (h : pop s = .ok (r, t)) :
    (rxEmpty s = true ∧ r = none ∧ t = s) ∨
    (rxEmpty s = false ∧ r = some (byteAt .rx s.rxTail s) ∧ s.rxTail < s.cfg.nRx ∧
      t = { s with rxTail := nextIndex s.cfg.nRx s.rxTail }) := by
  unfold pop at h
  split at h
  · rename_i he
    simp only [Except.ok.injEq, Prod.mk.injEq] at h
    exact .inl ⟨he, h.1.symm, h.2.symm⟩
  · rename_i he
    split at h
    · rename_i b hb
      obtain ⟨hi, rfl⟩ := memRead_eq_ok.1 hb
      simp only [Except.ok.injEq, Prod.mk.injEq] at h
      exact .inr ⟨by simpa using he, h.1.symm, hi, h.2.symm⟩
    · simp at h

/-- `pop` completes whenever `RX_TAIL` is a slot. -/
theorem pop_completes (h : s.rxTail < s.cfg.nRx) : ∃ r, pop s = .ok r := by
  unfold pop
  split
  · exact ⟨_, rfl⟩
  · simp [memRead, spaceSize, h]

/-- `terminate` leaves a full ring, or writes the terminator at `RX_TAIL` and nothing else. -/
theorem terminate_cases (h : terminate s = .ok t) :
    (rxFull s = true ∧ t = s) ∨
    (rxFull s = false ∧ s.rxTail < s.cfg.nRx ∧ t = { s with rxBuf := Memory.write s.rxTail terminator s.rxBuf }) := by
  unfold terminate at h
  split at h
  · rename_i hf
    exact .inl ⟨hf, by simpa [eq_comm] using h⟩
  · rename_i hf
    obtain ⟨hi, rfl⟩ := memWrite_eq_ok.1 h
    exact .inr ⟨by simpa using hf, hi, rfl⟩

/-- `terminate` completes whenever `RX_TAIL` is a slot. -/
theorem terminate_completes (h : s.rxTail < s.cfg.nRx) : ∃ t, terminate s = .ok t := by
  unfold terminate
  split
  · exact ⟨_, rfl⟩
  · simp [memWrite, spaceSize, h]

/-- The copy loop writes its bytes at rising indices and touches nothing else. -/
theorem copyToTx_cases {bytes : List Byte} {i : Nat} (h : copyToTx i bytes s = .ok t) :
    ∃ m, t = { s with txBuf := m } ∧
      (∀ k, k < bytes.length → Memory.read? m (i + k) = bytes[k]?) ∧
      (∀ k, k < i ∨ i + bytes.length ≤ k → Memory.read? m k = Memory.read? s.txBuf k) ∧
      (Memory.wf s.txBuf = true → Memory.wf m = true) ∧
      (∀ n, (∀ c ∈ s.txBuf, c.1 < n) → i + bytes.length ≤ n → ∀ c ∈ m, c.1 < n) := by
  induction bytes generalizing i s with
  | nil =>
    simp only [copyToTx, Except.ok.injEq] at h
    subst h
    exact ⟨s.txBuf, rfl, by simp, by simp, id, fun n h _ => h⟩
  | cons b rest ih =>
    unfold copyToTx at h
    split at h
    · rename_i u hu
      obtain ⟨hi, rfl⟩ := memWrite_eq_ok.1 hu
      obtain ⟨m, rfl, hin, hout, hwf, hb⟩ := ih h
      refine ⟨m, rfl, ?_, ?_, ?_, ?_⟩
      · intro k hk
        cases k with
        | zero => rw [Nat.add_zero, hout i (.inl (by omega))]; simp [setSpaceMem, spaceMem]
        | succ k =>
          have := hin k (by simpa using hk)
          rw [show i + (k + 1) = i + 1 + k by omega, this]
          simp
      · intro k hk
        rw [List.length_cons] at hk
        rw [hout k (by omega)]
        exact Memory.read?_write_other _ _ (by omega)
      · intro hw
        exact hwf (Memory.wf_write _ _ hw)
      · intro n hn hle
        rw [List.length_cons] at hle
        refine hb n ?_ (by omega)
        intro c hc
        rcases Memory.mem_write hc with h1 | h1
        · omega
        · exact hn c h1
    · simp at h

/-- The copy loop completes whenever its last index exists. -/
theorem copyToTx_completes {bytes : List Byte} {i : Nat} (h : i + bytes.length ≤ s.cfg.nTx) :
    ∃ t, copyToTx i bytes s = .ok t := by
  induction bytes generalizing i s with
  | nil => exact ⟨s, rfl⟩
  | cons b rest ih =>
    rw [List.length_cons] at h
    unfold copyToTx
    have hi : i < s.cfg.nTx := by omega
    simp only [memWrite, spaceSize, hi, if_true]
    exact ih (by simpa [setSpaceMem] using (by omega : i + 1 + rest.length ≤ s.cfg.nTx))

@[simp] theorem payload_length (n length : Nat) (bytes : List Byte) : (payload n length bytes).length = length := by
  simp [payload]

theorem payload_get (n length : Nat) (bytes : List Byte) {k : Nat} (h : k < length) :
    (payload n length bytes)[k]? = some (payloadByte n bytes k) := by
  simp [payload, h]

/-- A handler invocation that answers a state was enabled and ran its body. -/
theorem enterHandler_next {f : State → Except Fault State} (h : enterHandler f s = .next t) :
    s.busEn = true ∧ s.irqEn = true ∧ f (beginStep s) = .ok t := by
  unfold enterHandler at h
  split at h
  · rename_i he
    simp only [Bool.and_eq_true] at he
    refine ⟨he.1, he.2, ?_⟩
    unfold outcomeOf at h
    split at h <;> simp_all
  · simp at h

/-- A foreground operation that answers a state was enabled and ran its body. -/
theorem foregroundOp_next {f : State → Except Fault State} (h : foregroundOp f s = .next t) :
    s.fgState = .idle ∧ f (beginStep s) = .ok t := by
  unfold foregroundOp at h
  split at h
  · rename_i he
    refine ⟨he, ?_⟩
    unfold outcomeOf at h
    split at h <;> simp_all
  · simp at h

/-- `A_DataRx` performs an intercepted command, drops the byte of a full ring, or stores it. -/
theorem aDataRx_cases {d : Byte} (h : aDataRx d s = .ok t) :
    (∃ a, intercepted s d = some a ∧ t = ackIfRoom (perform a s)) ∨
    (intercepted s d = none ∧ rxFull s = true ∧ t = { s with ackEn := false }) ∨
    (intercepted s d = none ∧ rxFull s = false ∧ s.rxHead < s.cfg.nRx ∧
      t = { s with rxBuf := Memory.write s.rxHead d s.rxBuf, rxHead := nextIndex s.cfg.nRx s.rxHead, ackEn := true }) := by
  unfold aDataRx at h
  split at h
  · rename_i a ha
    exact .inl ⟨a, ha, by simpa [eq_comm] using h⟩
  · rename_i ha
    split at h
    · rename_i ok u hp
      simp only [Except.ok.injEq] at h
      subst h
      rcases push_cases hp with ⟨hf, rfl, rfl⟩ | ⟨hf, rfl, hi, rfl⟩
      · exact .inr (.inl ⟨ha, hf, rfl⟩)
      · exact .inr (.inr ⟨ha, hf, hi, rfl⟩)
    · simp at h

/-- `A_StopRx` writes the terminator if there is room, then stops and returns to `Ready`. -/
theorem aStopRx_cases (h : aStopRx s = .ok t) :
    (rxFull s = true ∧ t = setMode .ready (stopSeq s)) ∨
    (rxFull s = false ∧ s.rxTail < s.cfg.nRx ∧
      t = setMode .ready (stopSeq { s with rxBuf := Memory.write s.rxTail terminator s.rxBuf })) := by
  unfold aStopRx at h
  split at h
  · rename_i u hu
    simp only [Except.ok.injEq] at h
    subst h
    rcases terminate_cases hu with ⟨hf, rfl⟩ | ⟨hf, hi, rfl⟩
    · exact .inl ⟨hf, rfl⟩
    · exact .inr ⟨hf, hi, rfl⟩
  · simp at h

/-- `A_SendNext` loads the staged byte at the cursor and moves it, or loads the fill byte. -/
theorem aSendNext_cases (h : aSendNext s = .ok t) :
    (s.txIdx < s.txLen ∧ s.txIdx < s.cfg.nTx ∧
      t = { s with out := { s.out with load := some (byteAt .tx s.txIdx s) }, txIdx := s.txIdx + 1,
                   ackEn := decide (s.txIdx + 1 < s.txLen) }) ∨
    (s.txLen ≤ s.txIdx ∧ t = { s with out := { s.out with load := some txFill }, ackEn := false }) := by
  unfold aSendNext at h
  split at h
  · rename_i hlt
    split at h
    · rename_i b hb
      obtain ⟨hi, rfl⟩ := memRead_eq_ok.1 hb
      simp only [Except.ok.injEq] at h
      exact .inl ⟨hlt, hi, h.symm⟩
    · simp at h
  · rename_i hlt
    simp only [Except.ok.injEq] at h
    exact .inr ⟨by omega, h.symm⟩

/-- `A_SendNext` completes whenever the cursor names a byte of the storage or nothing is left to send. -/
theorem aSendNext_completes (h : s.txIdx < s.txLen → s.txIdx < s.cfg.nTx) : ∃ t, aSendNext s = .ok t := by
  unfold aSendNext
  split
  · rename_i hlt
    simp [memRead, spaceSize, h hlt]
  · exact ⟨_, rfl⟩

/-- The default payload is staged exactly when nothing is. -/
theorem stageDefault_cases (h : stageDefault s = .ok t) :
    (s.txLen ≠ 0 ∧ t = s) ∨
    (s.txLen = 0 ∧ 0 < s.cfg.nTx ∧ t = { s with txBuf := Memory.write 0 defaultTxByte s.txBuf, txLen := 1 }) := by
  unfold stageDefault at h
  split at h
  · rename_i h0
    split at h
    · rename_i u hu
      obtain ⟨hi, rfl⟩ := memWrite_eq_ok.1 hu
      simp only [Except.ok.injEq] at h
      exact .inr ⟨h0, hi, h.symm⟩
    · simp at h
  · rename_i h0
    exact .inl ⟨h0, by simpa [eq_comm] using h⟩

end Sys2Proof.Machine
end

