-- ==== Sys2Proof/Laws/Foreground.lean ====
section
/-! SUPPORT. What each foreground operation and each step of the other agents answers when it answers a state. -/

namespace Sys2Proof.Machine

variable {s t : State}

/-- `READ` marks an empty ring, or takes the byte at `RX_TAIL`. -/
theorem readOp_cases (h : readOp s = .ok t) :
    (s.rxHead = s.rxTail ∧ t = { s with rxMark := s.rxTail, out := { s.out with result := .read none } }) ∨
    (s.rxHead ≠ s.rxTail ∧ s.rxTail < s.cfg.nRx ∧
      t = { s with rxTail := (s.rxTail + 1) % s.cfg.nRx,
                   out := { s.out with result := .read (some (byteAt .rx s.rxTail s)) } }) := by
  unfold readOp at h
  split at h
  · rename_i b u hp
    rcases pop_cases hp with ⟨_, hb, _⟩ | ⟨he, hb, hi, rfl⟩
    · simp at hb
    · simp only [Option.some.injEq] at hb
      simp only [Except.ok.injEq] at h
      subst hb h
      exact .inr ⟨(rxEmpty_eq_false s).1 he, hi, rfl⟩
  · rename_i u hp
    rcases pop_cases hp with ⟨he, _, rfl⟩ | ⟨_, hb, _⟩
    · simp only [Except.ok.injEq] at h
      subst h
      exact .inl ⟨(rxEmpty_eq_true _).1 he, rfl⟩
    · simp at hb
  · simp at h

/-- `READ` completes whenever `RX_TAIL` is a slot. -/
theorem readOp_completes (h : s.rxTail < s.cfg.nRx) : ∃ t, readOp s = .ok t := by
  obtain ⟨⟨r, u⟩, hp⟩ := pop_completes h
  cases r <;> simp [readOp, hp]

/-- `TRANSMIT` answers an error and writes nothing, or stages the payload. -/
theorem transmitOp_cases {length : Nat} {bytes : List Byte} (h : transmitOp length bytes s = .ok t) :
    (∃ e, t = { s with out := { s.out with result := .transmitErr e } } ∧
      (s.cfg.nTx < length ∨ s.mode ≠ .slaveTransmit)) ∨
    (length ≤ s.cfg.nTx ∧ s.mode = .slaveTransmit ∧ ∃ m,
      t = { s with txBuf := m, txLen := length, draws := s.draws + payloadDraws length bytes,
                   out := { s.out with result := .transmitOk } } ∧
      (∀ k, k < length → Memory.read? m k = some (payloadByte s.draws bytes k)) ∧
      (∀ k, length ≤ k → Memory.read? m k = Memory.read? s.txBuf k) ∧
      (Memory.wf s.txBuf = true → Memory.wf m = true) ∧
      ((∀ c ∈ s.txBuf, c.1 < s.cfg.nTx) → ∀ c ∈ m, c.1 < s.cfg.nTx)) := by
  unfold transmitOp at h
  split at h
  · rename_i hlt
    exact .inl ⟨_, by simpa [giveResult, eq_comm] using h, .inl hlt⟩
  · rename_i hle
    split at h
    · rename_i hm
      exact .inl ⟨_, by simpa [giveResult, eq_comm] using h, .inr (by simp [hm])⟩
    · rename_i hm
      exact .inl ⟨_, by simpa [giveResult, eq_comm] using h, .inr (by simp [hm])⟩
    · rename_i hm
      split at h
      · rename_i u hu
        obtain ⟨m, rfl, hin, hout, hwf, hb⟩ := copyToTx_cases hu
        refine .inr ⟨by omega, hm, m, ?_, ?_, ?_, hwf, ?_⟩
        · simpa [giveResult, eq_comm] using h
        · intro k hk
          have := hin k (by simpa using hk)
          rw [payload_get _ _ _ hk] at this
          simpa using this
        · intro k hk
          exact hout k (.inr (by simpa using hk))
        · intro hn
          exact hb _ hn (by simp; omega)
      · simp at h

/-- `TRANSMIT` always completes. -/
theorem transmitOp_completes (length : Nat) (bytes : List Byte) : ∃ t, transmitOp length bytes s = .ok t := by
  unfold transmitOp
  split
  · exact ⟨_, rfl⟩
  · rename_i hle
    cases s.mode
    · exact ⟨_, rfl⟩
    · exact ⟨_, rfl⟩
    · obtain ⟨u, hu⟩ := copyToTx_completes (s := s) (bytes := payload s.draws length bytes) (i := 0)
        (by simp; omega)
      simp [hu]

/-- `FGRESUME` answers a state exactly when it is enabled (R197). -/
theorem execFgResume_next (h : execFgResume s = .next t) :
    s.fgState = .waitStop ∧ s.stopPending = false ∧
    t = { s with mode := .ready, fgState := .idle, out := { Outputs.quiet with result := .done } } := by
  unfold execFgResume at h
  split at h
  · rename_i h1 h2
    exact ⟨h1, h2, by simpa [giveResult, setMode, beginStep, eq_comm] using h⟩
  · simp at h
  · simp at h

/-- `STOPDONE` answers a state exactly when it is enabled (R60). -/
theorem execBusStopdone_next (h : execBusStopdone s = .next t) :
    s.stopPending = true ∧ t = { s with stopPending := false, out := Outputs.quiet } := by
  unfold execBusStopdone at h
  split at h
  · rename_i hp
    exact ⟨hp, by simpa [beginStep, eq_comm] using h⟩
  · simp at h

end Sys2Proof.Machine
end

