-- ==== Sys2Proof/Laws/Handler.lean ====
section
/-! SUPPORT. What one handler invocation can do: the answer of each class action, and the registers no class action writes. -/

namespace Sys2Proof.Machine

variable {s t : State}

/-- `A_AddrTx` stages the default payload if nothing is staged, then sends the first byte. -/
theorem aAddrTx_cases (h : aAddrTx s = .ok t) :
    (s.txLen = 0 ∧ 0 < s.cfg.nTx ∧
      t = { s with mode := .slaveTransmit, txBuf := Memory.write 0 defaultTxByte s.txBuf, txLen := 1, txIdx := 1,
                   ackEn := false, out := { s.out with load := some defaultTxByte } }) ∨
    (0 < s.txLen ∧ 0 < s.cfg.nTx ∧
      t = { s with mode := .slaveTransmit, txIdx := 1, ackEn := decide (1 < s.txLen),
                   out := { s.out with load := some (byteAt .tx 0 s) } }) := by
  unfold aAddrTx at h
  split at h
  · rename_i u hu
    rcases stageDefault_cases hu with ⟨h0, rfl⟩ | ⟨h0, hn, rfl⟩
    · replace h0 : 0 < s.txLen := Nat.pos_of_ne_zero h0
      rcases aSendNext_cases h with ⟨_, hi, rfl⟩ | ⟨hle, _⟩
      · exact .inr ⟨h0, hi, rfl⟩
      · exact absurd hle (Nat.not_le.2 h0)
    · rcases aSendNext_cases h with ⟨_, _, rfl⟩ | ⟨hle, _⟩
      · refine .inl ⟨h0, hn, ?_⟩
        simp [byteAt, spaceMem, setMode]
      · exact absurd hle (by simp)
  · simp at h

/-- `A_AddrTx` completes whenever the transmit storage has a byte. -/
theorem aAddrTx_completes (h : 0 < s.cfg.nTx) : ∃ t, aAddrTx s = .ok t := by
  unfold aAddrTx stageDefault
  by_cases h0 : s.txLen = 0
  · simp only [setMode, h0, if_true, memWrite, spaceSize, h]
    exact aSendNext_completes (fun _ => h)
  · simp only [setMode, h0, if_false]
    exact aSendNext_completes (fun _ => h)

/-- A class action completes whenever the indices it uses name bytes of the storage. -/
theorem classAction_completes (c : StatusClass) (code d : Byte)
    (hh : s.rxHead < s.cfg.nRx) (ht : s.rxTail < s.cfg.nRx) (hn : 0 < s.cfg.nTx)
    (hi : s.txIdx < s.txLen → s.txIdx < s.cfg.nTx) : ∃ t, classAction c code d s = .ok t := by
  cases c <;> simp only [classAction]
  case dataRx =>
    unfold aDataRx
    split
    · exact ⟨_, rfl⟩
    · obtain ⟨⟨ok, u⟩, hp⟩ := push_completes d hh
      simp [hp]
  case stopRx =>
    obtain ⟨u, hu⟩ := terminate_completes ht
    simp [aStopRx, hu]
  case addrTx => exact aAddrTx_completes hn
  case sendNext => exact aSendNext_completes hi
  all_goals exact ⟨_, rfl⟩

/-- The registers no class action writes: the read indices, the enables, the address, the foreground state, the marker and the
parameters (R38). -/
theorem classAction_frame {c : StatusClass} {code d : Byte} (h : classAction c code d s = .ok t) :
    t.cfg = s.cfg ∧ t.rxTail = s.rxTail ∧ t.rxMark = s.rxMark ∧ t.irqEn = s.irqEn ∧ t.busEn = s.busEn ∧
    t.ownAddr = s.ownAddr ∧ t.fgState = s.fgState ∧ t.modelFault = s.modelFault ∧ t.draws = s.draws ∧
    t.inputs = s.inputs ∧ t.out.startReq = s.out.startReq ∧ t.out.result = s.out.result := by
  cases c <;> simp only [classAction, Except.ok.injEq] at h
  case dataRx =>
    rcases aDataRx_cases h with ⟨a, _, rfl⟩ | ⟨_, _, rfl⟩ | ⟨_, _, _, rfl⟩
    · cases a <;> simp [perform]
    · simp
    · simp
  case stopRx => rcases aStopRx_cases h with ⟨_, rfl⟩ | ⟨_, _, rfl⟩ <;> simp
  case addrTx => rcases aAddrTx_cases h with ⟨_, _, rfl⟩ | ⟨_, _, rfl⟩ <;> simp
  case sendNext => rcases aSendNext_cases h with ⟨_, _, rfl⟩ | ⟨_, rfl⟩ <;> simp
  all_goals
    subst h
    simp [aStart, aAddrRx, aDataNackRx, aTxDone, aNoInfo, aBusError, aMasterDefensive, aMasterArbLost, aUnknown]

/-- The hand-back emits `RELEASE` unless the class is `NoInfo`, and nothing else (R130). -/
theorem handBack_eq (c : StatusClass) (s : State) :
    handBack c s = if c = .noInfo then s else emitRelease s := by
  cases c <;> simp [handBack]

/-- The hand-back writes the output `RELEASE` only. -/
theorem handBack_fields (c : StatusClass) (s : State) :
    ∃ release, handBack c s = { s with out := { s.out with release := release } } := by
  rw [handBack_eq]
  split
  · exact ⟨s.out.release, rfl⟩
  · exact ⟨true, rfl⟩

/-- The handler body is the class action and the hand-back. -/
theorem handlerBody_cases {c : StatusClass} {code d : Byte} (h : handlerBody c code d s = .ok t) :
    ∃ u, classAction c code d s = .ok u ∧ t = handBack c u := by
  unfold handlerBody at h
  split at h
  · rename_i u hu
    exact ⟨u, hu, by simpa [eq_comm] using h⟩
  · simp at h

/-- A bus event that answers a state was enabled; the state is the class action's, handed back. -/
theorem busEvent_next {c : StatusClass} {code d : Byte} (h : busEvent c code d s = .next t) :
    s.busEn = true ∧ s.irqEn = true ∧ ∃ u, classAction c code d (beginStep s) = .ok u ∧ t = handBack c u := by
  obtain ⟨hb, hq, hh⟩ := enterHandler_next h
  exact ⟨hb, hq, handlerBody_cases hh⟩

end Sys2Proof.Machine
end

