-- ==== Sys2Proof/Laws/PerInstr.lean ====
section
/-! SUPPORT. Laws made per instruction: one lemma per constructor of `Instr`. -/

/-- The encoder writes the form of R96: every field the instruction does not read is zero. -/
def Sys2Proof.Laws.CanonicalWord.Statement (i : Sys2Proof.Instr) : Prop :=
  (Sys2Proof.encode i).canonical = true

namespace Sys2Proof.Laws.CanonicalWord

theorem evBusError : Statement .evBusError := by unfold Statement; decide

theorem evStart : Statement .evStart := by unfold Statement; decide

theorem evRepStart : Statement .evRepStart := by unfold Statement; decide

theorem evMtSlaAck : Statement .evMtSlaAck := by unfold Statement; decide

theorem evMtSlaNack : Statement .evMtSlaNack := by unfold Statement; decide

theorem evMtDataAck : Statement .evMtDataAck := by unfold Statement; decide

theorem evMtDataNack : Statement .evMtDataNack := by unfold Statement; decide

theorem evArbLost : Statement .evArbLost := by unfold Statement; decide

theorem evMrSlaAck : Statement .evMrSlaAck := by unfold Statement; decide

theorem evMrSlaNack : Statement .evMrSlaNack := by unfold Statement; decide

theorem evMrDataAck : Statement .evMrDataAck := by unfold Statement; decide

theorem evMrDataNack : Statement .evMrDataNack := by unfold Statement; decide

theorem evSrSlaAck : Statement .evSrSlaAck := by unfold Statement; decide

theorem evSrArbLostSlaAck : Statement .evSrArbLostSlaAck := by unfold Statement; decide

theorem evSrGcallAck : Statement .evSrGcallAck := by unfold Statement; decide

theorem evSrArbLostGcallAck : Statement .evSrArbLostGcallAck := by unfold Statement; decide

theorem evSrDataAck (d : Byte) : Statement (.evSrDataAck d) := by
  simp [Statement, encode, Request.canonical, statusCode, statusMap]

theorem evSrDataNack : Statement .evSrDataNack := by unfold Statement; decide

theorem evSrGcallDataAck (d : Byte) : Statement (.evSrGcallDataAck d) := by
  simp [Statement, encode, Request.canonical, statusCode, statusMap]

theorem evSrGcallDataNack : Statement .evSrGcallDataNack := by unfold Statement; decide

theorem evSrStop : Statement .evSrStop := by unfold Statement; decide

theorem evStSlaAck : Statement .evStSlaAck := by unfold Statement; decide

theorem evStArbLostSlaAck : Statement .evStArbLostSlaAck := by unfold Statement; decide

theorem evStDataAck : Statement .evStDataAck := by unfold Statement; decide

theorem evStDataNack : Statement .evStDataNack := by unfold Statement; decide

theorem evStLastData : Statement .evStLastData := by unfold Statement; decide

theorem evUnknownD0 : Statement .evUnknownD0 := by unfold Statement; decide

theorem evUnknownD8 : Statement .evUnknownD8 := by unfold Statement; decide

theorem evUnknownE0 : Statement .evUnknownE0 := by unfold Statement; decide

theorem evUnknownE8 : Statement .evUnknownE8 := by unfold Statement; decide

theorem evUnknownF0 : Statement .evUnknownF0 := by unfold Statement; decide

theorem evNoInfo : Statement .evNoInfo := by unfold Statement; decide

theorem fgInit (addr : BitVec 7) : Statement (.fgInit addr) := by
  simp [Statement, encode, Request.canonical]

theorem fgRead : Statement .fgRead := by unfold Statement; decide

theorem fgResetReadCursor : Statement .fgResetReadCursor := by unfold Statement; decide

theorem fgTransmit (length : Nat) (bytes : List Byte) : Statement (.fgTransmit length bytes) := by
  simp [Statement, encode, Request.canonical]

theorem fgForceStop : Statement .fgForceStop := by unfold Statement; decide

theorem fgReleaseBus : Statement .fgReleaseBus := by unfold Statement; decide

theorem fgClearError : Statement .fgClearError := by unfold Statement; decide

theorem fgResume : Statement .fgResume := by unfold Statement; decide

theorem busStopdone : Statement .busStopdone := by unfold Statement; decide

theorem collabClrStatus : Statement .collabClrStatus := by unfold Statement; decide

theorem collabClrCycle : Statement .collabClrCycle := by unfold Statement; decide

theorem collabClrHold : Statement .collabClrHold := by unfold Statement; decide

end Sys2Proof.Laws.CanonicalWord
end

