-- ==== Sys2Proof/Laws/Ring.lean ====
section
/-! SUPPORT. The receive ring as arithmetic on slots and as a list of unread bytes. -/

namespace Sys2Proof.Machine

/-- The distance between two slots of a ring of `n`, without `%`. -/
theorem slots_sub_mod {n a b : Nat} (ha : a < n) (hb : b < n) : (a + n - b) % n = if b ≤ a then a - b else a + n - b := by
  split
  · rw [show a + n - b = (a - b) + n by omega, Nat.add_mod_right, Nat.mod_eq_of_lt (by omega)]
  · rw [Nat.mod_eq_of_lt (by omega)]

/-- The slot `k` places on, without `%`. -/
theorem slots_add_mod {n a k : Nat} (ha : a < n) (hk : k ≤ n) : (a + k) % n = if a + k < n then a + k else a + k - n := by
  split
  · rw [Nat.mod_eq_of_lt (by omega)]
  · rw [show a + k = (a + k - n) + n by omega, Nat.add_mod_right, Nat.mod_eq_of_lt (by omega)]; omega

/-- Fewer than `N_RX` slots lie between two slots. -/
theorem slotsFrom_lt {s : State} {i} (hn : 2 ≤ s.cfg.nRx) : slotsFrom i s < s.cfg.nRx := Nat.mod_lt _ (by omega)

/-- A pushed byte keeps the slots from `i` to `RX_HEAD` written. -/
theorem writtenFrom_push {s : State} {i : Nat} {d : Byte} (hn : 2 ≤ s.cfg.nRx) (hh : s.rxHead < s.cfg.nRx) (hi : i < s.cfg.nRx)
  (hw : WrittenFrom i s) {t : State} (h1 : t.cfg = s.cfg) (h2 : t.rxBuf = Memory.write s.rxHead d s.rxBuf)
    (h3 : t.rxHead = nextIndex s.cfg.nRx s.rxHead) :
  WrittenFrom i t := by
  intro k hk
  have hk' : k < s.cfg.nRx := by have := slotsFrom_lt (i := i) (s := t) (by rw [h1]; exact hn); rw [h1] at this; omega
  rw [h2, h1]
  by_cases hc : (i + k) % s.cfg.nRx = s.rxHead
  · rw [hc]; simp
  · rw [Memory.read?_write_other _ _ hc]
    apply hw
    unfold slotsFrom at hk ⊢
    rw [h1, h3] at hk
    unfold nextIndex at hk
    rw [slots_add_mod hh (by omega)] at hk
    rw [slots_add_mod hi (by omega)] at hc
    have hb : (if s.rxHead + 1 < s.cfg.nRx then s.rxHead + 1 else s.rxHead + 1 - s.cfg.nRx) < s.cfg.nRx := by split <;> omega
    rw [slots_sub_mod hb hi] at hk
    rw [slots_sub_mod hh hi]
    split_ifs at hk hc ⊢ <;> omega

/-- Slots stay written while `RX_HEAD` stays and no byte is unwritten. -/
theorem writtenFrom_mono {s t : State} {i : Nat} (hw : WrittenFrom i s) (h1 : t.cfg = s.cfg) (h3 : t.rxHead = s.rxHead)
  (h2 : ∀ j, (Memory.read? s.rxBuf j).isSome = true → (Memory.read? t.rxBuf j).isSome = true) : WrittenFrom i t := by
  intro k hk
  rw [h1]
  apply h2
  apply hw
  unfold slotsFrom at hk ⊢
  rwa [h1, h3] at hk

/-- The size constraints of R9. -/
theorem wf_bounds {p : Config.Params} (h : p.wf = true) : 2 ≤ p.nRx ∧ 1 ≤ p.nTx := by
  simp only [Config.Params.wf, Bool.and_eq_true, decide_eq_true_eq, bne_iff_ne] at h
  exact ⟨h.1.1.1.1.1.1.1, h.1.1.1.1.1.1.2⟩

/-- The bytes from slot `i` up to `RX_HEAD`, oldest first; `unread` with `i` for `RX_TAIL`. -/
def unreadFrom (i : Nat) (s : State) : List Byte := (List.range (slotsFrom i s)).map (fun k => byteAt .rx ((i + k) % s.cfg.nRx) s)

theorem unreadFrom_tail (s : State) : unreadFrom s.rxTail s = unread s := rfl

/-- The ring is full when `N_RX - 1` bytes are unread (R55, R57). -/
theorem rxFull_iff_slots {s : State} (hn : 2 ≤ s.cfg.nRx) (hh : s.rxHead < s.cfg.nRx) (hi : s.rxTail < s.cfg.nRx) :
   rxFull s = true ↔ slotsFrom s.rxTail s = s.cfg.nRx - 1 := by
  unfold rxFull slotsFrom nextIndex
  rw [slots_add_mod hh (by omega), slots_sub_mod hh hi]
  simp only [beq_iff_eq]
  split_ifs <;> omega

/-- The ring is empty when no byte is unread (R55, R57). -/
theorem head_eq_tail_iff_slots {s : State} (hh : s.rxHead < s.cfg.nRx) (hi : s.rxTail < s.cfg.nRx) :
   s.rxHead = s.rxTail ↔ slotsFrom s.rxTail s = 0 := by
  unfold slotsFrom
  rw [slots_sub_mod hh hi]
  split_ifs <;> omega

/-- A byte written at `RX_HEAD` joins the unread bytes at the end. -/
theorem unreadFrom_push {s t : State} {i : Nat} {d : Byte} (hn : 2 ≤ s.cfg.nRx) (hh : s.rxHead < s.cfg.nRx) (hi : i < s.cfg.nRx)
   (hl : slotsFrom i s < s.cfg.nRx - 1) (h1 : t.cfg = s.cfg) (h2 : t.rxBuf = Memory.write s.rxHead d s.rxBuf)
    (h3 : t.rxHead = nextIndex s.cfg.nRx s.rxHead) :
   unreadFrom i t = unreadFrom i s ++ [d] := by
  have hs : slotsFrom i t = slotsFrom i s + 1 := by
    unfold slotsFrom at hl ⊢
    rw [h1, h3]; unfold nextIndex
    rw [slots_sub_mod hh hi] at hl ⊢
    rw [slots_add_mod hh (by omega)]
    have hb : (if s.rxHead + 1 < s.cfg.nRx then s.rxHead + 1 else s.rxHead + 1 - s.cfg.nRx) < s.cfg.nRx := by split <;> omega
    rw [slots_sub_mod hb hi]
    split_ifs at hl ⊢ <;> omega
  have hd : (i + slotsFrom i s) % s.cfg.nRx = s.rxHead := by
    rw [slots_add_mod hi (by omega)]
    unfold slotsFrom
    rw [slots_sub_mod hh hi]
    split_ifs <;> omega
  unfold unreadFrom
  rw [hs, List.range_succ, List.map_append, h1]
  congr 1
  · apply List.map_congr_left
    intro k hk
    have hk : k < slotsFrom i s := by simpa using hk
    have hne : (i + k) % s.cfg.nRx ≠ s.rxHead := by
      rw [slots_add_mod hi (by omega)]
      unfold slotsFrom at hk hl
      rw [slots_sub_mod hh hi] at hk hl
      split_ifs at hk hl ⊢ <;> omega
    simp [byteAt, spaceMem, h2, Memory.read?_write_other _ _ hne]
  · simp [byteAt, spaceMem, h2, hd]

/-- `unreadFrom` reads the parameters, the storage and `RX_HEAD` only. -/
theorem unreadFrom_congr {s t : State} {i : Nat} (h1 : t.cfg = s.cfg) (h2 : t.rxBuf = s.rxBuf) (h3 : t.rxHead = s.rxHead) :
    unreadFrom i t = unreadFrom i s := by
  simp [unreadFrom, slotsFrom, byteAt, spaceMem, h1, h2, h3]

@[simp] theorem unreadFrom_length (i : Nat) (s : State) : (unreadFrom i s).length = slotsFrom i s := by simp [unreadFrom]

/-- The oldest unread byte is the one at `RX_TAIL`. -/
theorem unreadFrom_pop {s : State} (hn : 2 ≤ s.cfg.nRx) (hh : s.rxHead < s.cfg.nRx) (hi : s.rxTail < s.cfg.nRx)
   (hl : s.rxHead ≠ s.rxTail) : unreadFrom s.rxTail s = byteAt .rx s.rxTail s :: unreadFrom ((s.rxTail + 1) % s.cfg.nRx) s := by
  have hs : slotsFrom s.rxTail s = slotsFrom ((s.rxTail + 1) % s.cfg.nRx) s + 1 := by
    unfold slotsFrom
    rw [slots_add_mod hi (by omega)]
    have hb : (if s.rxTail + 1 < s.cfg.nRx then s.rxTail + 1 else s.rxTail + 1 - s.cfg.nRx) < s.cfg.nRx := by split <;> omega
    rw [slots_sub_mod hh hi, slots_sub_mod hh hb]
    split_ifs <;> omega
  unfold unreadFrom
  rw [hs, List.range_succ_eq_map, List.map_cons, List.map_map]
  congr 1
  · rw [Nat.add_zero, Nat.mod_eq_of_lt hi]
  · apply List.map_congr_left
    intro k _
    simp only [Function.comp, Nat.mod_add_mod]
    congr 2; omega

end Sys2Proof.Machine
end

