-- ==== Sys2Proof/Laws/Steps.lean ====
section
/-! SUPPORT. Everything an instruction can do when it answers a state, once for all instructions: what a proof about every
instruction splits on. -/

namespace Sys2Proof.Machine

variable {i : Instr} {s t : State}

/-- The ways from `s` to `t` by the instruction `i`, guards included. -/
inductive Effect (i : Instr) (s t : State) : Prop
  | event (c : StatusClass) (code d : Byte) (u : State) (release : Bool) (kind : stepKind i = .event)
      (bus : s.busEn = true) (irq : s.irqEn = true) (act : classAction c code d (beginStep s) = .ok u)
      (eq : t = { u with out := { u.out with release := release } })
      (data : c = .dataRx → i = .evSrDataAck d ∨ i = .evSrGcallDataAck d)
      (stop : c = .stopRx → i = .evSrStop)
      (addr : c = .addrTx → i = .evStSlaAck ∨ i = .evStArbLostSlaAck)
      (send : c = .sendNext → i = .evStDataAck)
      (latch : code ∈ legalErrLatch ∨ (c ≠ .busError ∧ c ≠ .unknown))
  | init (a : BitVec 7) (instr : i = .fgInit a) (idle : s.fgState = .idle)
      (eq : t = giveResult .done (initRegisters a (markMidTransaction (beginStep s))))
  | read (instr : i = .fgRead) (idle : s.fgState = .idle) (ok : readOp (beginStep s) = .ok t)
  | resetReadCursor (instr : i = .fgResetReadCursor) (idle : s.fgState = .idle)
      (eq : t = giveResult .done (rewind (beginStep s)))
  | transmit (length : Nat) (bytes : List Byte) (instr : i = .fgTransmit length bytes) (idle : s.fgState = .idle)
      (ok : transmitOp length bytes (beginStep s) = .ok t)
  | forceStop (instr : i = .fgForceStop) (idle : s.fgState = .idle)
      (eq : t = { stopSeq (beginStep s) with fgState := .waitStop })
  | releaseBus (instr : i = .fgReleaseBus) (idle : s.fgState = .idle)
      (eq : t = giveResult .done (emitRelease { beginStep s with ackEn := true, irqEn := true }))
  | clearError (instr : i = .fgClearError) (idle : s.fgState = .idle)
      (eq : t = giveResult .done { beginStep s with errLatch := errNone })
  | resume (instr : i = .fgResume) (wait : s.fgState = .waitStop) (stopped : s.stopPending = false)
      (eq : t = { s with mode := .ready, fgState := .idle, out := { Outputs.quiet with result := .done } })
  | stopDone (instr : i = .busStopdone) (pending : s.stopPending = true)
      (eq : t = { s with stopPending := false, out := Outputs.quiet })
  | clearStatus (instr : i = .collabClrStatus) (eq : t = { s with reqStatus := false, out := Outputs.quiet })
  | clearCycle (instr : i = .collabClrCycle) (eq : t = { s with reqCycle := false, out := Outputs.quiet })
  | clearHold (instr : i = .collabClrHold) (eq : t = { s with reqHold := false, out := Outputs.quiet })

/-- An instruction that answers a state has one of the effects. -/
theorem exec_effect (h : exec i s = .next t) : Effect i s t := by
  cases i
  case fgInit a =>
    obtain ⟨h1, h2⟩ := foregroundOp_next h
    exact .init a rfl h1 (by simpa [initOp, eq_comm] using h2)
  case fgRead => obtain ⟨h1, h2⟩ := foregroundOp_next h; exact .read rfl h1 h2
  case fgResetReadCursor =>
    obtain ⟨h1, h2⟩ := foregroundOp_next h
    exact .resetReadCursor rfl h1 (by simpa [resetReadCursorOp, eq_comm] using h2)
  case fgTransmit l b => obtain ⟨h1, h2⟩ := foregroundOp_next h; exact .transmit l b rfl h1 h2
  case fgForceStop =>
    obtain ⟨h1, h2⟩ := foregroundOp_next h
    exact .forceStop rfl h1 (by simp only [forceStopOp, Except.ok.injEq] at h2; exact h2.symm)
  case fgReleaseBus =>
    obtain ⟨h1, h2⟩ := foregroundOp_next h
    exact .releaseBus rfl h1 (by simp only [releaseBusOp, Except.ok.injEq] at h2; exact h2.symm)
  case fgClearError =>
    obtain ⟨h1, h2⟩ := foregroundOp_next h
    exact .clearError rfl h1 (by simp only [clearErrorOp, Except.ok.injEq] at h2; exact h2.symm)
  case fgResume => obtain ⟨h1, h2, h3⟩ := execFgResume_next h; exact .resume rfl h1 h2 h3
  case busStopdone => obtain ⟨h1, h2⟩ := execBusStopdone_next h; exact .stopDone rfl h1 h2
  case collabClrStatus =>
    exact .clearStatus rfl (by simpa [exec, execCollabClrStatus, setRequestFlag, beginStep, eq_comm] using h)
  case collabClrCycle =>
    exact .clearCycle rfl (by simpa [exec, execCollabClrCycle, setRequestFlag, beginStep, eq_comm] using h)
  case collabClrHold =>
    exact .clearHold rfl (by simpa [exec, execCollabClrHold, setRequestFlag, beginStep, eq_comm] using h)
  all_goals
    obtain ⟨hb, hq, u, hu, ht⟩ := busEvent_next h
    obtain ⟨r, hr⟩ := handBack_fields _ u
    exact .event _ _ _ u r rfl hb hq hu (ht.trans hr) (by simp) (by simp) (by simp) (by simp) (by simp [legalErrLatch])

end Sys2Proof.Machine
end

