-- ==== Sys2Proof/Machine/Program.lean ====
section
/-! DEFINITION. The written form of a program's lines (R96) and the step sequences the pseudo-instructions stand for (R97). -/

namespace Sys2Proof.Machine

/-- One hexadecimal digit. -/
def hexDigit (n : Nat) : String :=
  match n with
  | 0 => "0" | 1 => "1" | 2 => "2" | 3 => "3" | 4 => "4" | 5 => "5" | 6 => "6" | 7 => "7"
  | 8 => "8" | 9 => "9" | 10 => "A" | 11 => "B" | 12 => "C" | 13 => "D" | 14 => "E" | _ => "F"

/-- A byte as R13 and R96 write it: `0x` and two hexadecimal digits. -/
def hexByte (n : Nat) : String := "0x" ++ hexDigit (n / 16) ++ hexDigit (n % 16)

/-- The bytes of a `TRANSMIT` line, between its brackets (R96). -/
def hexBytes : List Byte → String
  | [] => ""
  | [b] => hexByte b.toNat
  | b :: rest => hexByte b.toNat ++ ", " ++ hexBytes rest

/-- The operand of a `TRANSMIT` line: the listed bytes, or `len=L` where none is listed (R96). -/
def transmitOperand (length : Nat) (bytes : List Byte) : String :=
  if bytes.length = length then "[" ++ hexBytes bytes ++ "]" else "len=" ++ toString length

/-- The line of an instruction in the syntax of R96. The unknown codes are written by their raw status value. -/
def programLine : Instr → String
  | .evBusError => "EV BUS_ERROR"
  | .evStart => "EV START"
  | .evRepStart => "EV REP_START"
  | .evMtSlaAck => "EV MT_SLA_ACK"
  | .evMtSlaNack => "EV MT_SLA_NACK"
  | .evMtDataAck => "EV MT_DATA_ACK"
  | .evMtDataNack => "EV MT_DATA_NACK"
  | .evArbLost => "EV ARB_LOST"
  | .evMrSlaAck => "EV MR_SLA_ACK"
  | .evMrSlaNack => "EV MR_SLA_NACK"
  | .evMrDataAck => "EV MR_DATA_ACK"
  | .evMrDataNack => "EV MR_DATA_NACK"
  | .evSrSlaAck => "EV SR_SLA_ACK"
  | .evSrArbLostSlaAck => "EV SR_ARB_LOST_SLA_ACK"
  | .evSrGcallAck => "EV SR_GCALL_ACK"
  | .evSrArbLostGcallAck => "EV SR_ARB_LOST_GCALL_ACK"
  | .evSrDataAck d => "EV SR_DATA_ACK, " ++ hexByte d.toNat
  | .evSrDataNack => "EV SR_DATA_NACK"
  | .evSrGcallDataAck d => "EV SR_GCALL_DATA_ACK, " ++ hexByte d.toNat
  | .evSrGcallDataNack => "EV SR_GCALL_DATA_NACK"
  | .evSrStop => "EV SR_STOP"
  | .evStSlaAck => "EV ST_SLA_ACK"
  | .evStArbLostSlaAck => "EV ST_ARB_LOST_SLA_ACK"
  | .evStDataAck => "EV ST_DATA_ACK"
  | .evStDataNack => "EV ST_DATA_NACK"
  | .evStLastData => "EV ST_LAST_DATA"
  | .evUnknownD0 => "EV S=0xD0"
  | .evUnknownD8 => "EV S=0xD8"
  | .evUnknownE0 => "EV S=0xE0"
  | .evUnknownE8 => "EV S=0xE8"
  | .evUnknownF0 => "EV S=0xF0"
  | .evNoInfo => "EV NO_INFO"
  | .fgInit addr => "FG INIT " ++ hexByte addr.toNat
  | .fgRead => "FG READ"
  | .fgResetReadCursor => "FG RESET_READ_CURSOR"
  | .fgTransmit length bytes => "FG TRANSMIT " ++ transmitOperand length bytes
  | .fgForceStop => "FG FORCE_STOP"
  | .fgReleaseBus => "FG RELEASE_BUS"
  | .fgClearError => "FG CLEAR_ERROR"
  | .fgResume => "FG RESUME"
  | .busStopdone => "BUS STOPDONE"
  | .collabClrStatus => "COLLAB CLR STATUS"
  | .collabClrCycle => "COLLAB CLR CYCLE"
  | .collabClrHold => "COLLAB CLR HOLD"

/-- `MASTER_WRITE b1, ..., bn` (R97): a remote initiator writes n bytes to this slave and stops. -/
def masterWrite (bytes : List Byte) : List Instr :=
  .evSrSlaAck :: (bytes.map .evSrDataAck ++ [.evSrStop])

/-- `MASTER_READ n`, `n >= 1` (R97): a remote initiator reads n bytes and does not acknowledge the last. -/
def masterRead (n : Nat) : List Instr :=
  .evStSlaAck :: (List.replicate (n - 1) .evStDataAck ++ [.evStDataNack])

/-- `DRAIN` (R97) in the state it starts in: `FG READ` until one finds the ring empty, with no other step between. -/
def drain (s : State) : List Instr := List.replicate (rxCount s + 1) .fgRead

/-- `FORCE_STOP_WAIT` (R97). -/
def forceStopWait : List Instr := [.fgForceStop, .busStopdone, .fgResume]

end Sys2Proof.Machine
end

