-- ==== Sys2Proof/Tests/Slice0.lean ====
section
/-! SUPPORT. Tests of the decoder against the encodings of R83, R93, R95 and R96, one-step tests against the vectors of
spec/95_test_vectors.md (each names its vector), and, for every statement with hypotheses, a witness that meets them. -/

namespace Sys2Proof.Tests

open Sys2Proof.Machine

/-! ### Helpers -/

/-- The decoder reads `i` from `r`. -/
def reads (r : Request) (i : Instr) : Bool :=
  match decode r with
  | .ok j => decide (j = i)
  | .error _ => false

/-- The decoder rejects `r` for the reason `e`. -/
def rejects (r : Request) (e : Reject) : Bool :=
  match decode r with
  | .ok _ => false
  | .error x => decide (x = e)

/-- The outcome is a next state that passes the check. -/
def next (p : State → Bool) : Host.Outcome State Fault Refusal → Bool
  | .next t => p t
  | .fault _ => false
  | .refused _ => false

/-- The state meets the invariant. -/
def meetsInv (s : State) : Bool := decide s.Inv

/-- The outcome is a next state. -/
def completes (o : Host.Outcome State Fault Refusal) : Bool := next (fun _ => true) o

/-- The outcome is the refusal `r`. -/
def refusedAs (r : Refusal) : Host.Outcome State Fault Refusal → Bool
  | .next _ => false
  | .fault _ => false
  | .refused x => decide (x = r)

/-- The outcome is the fault `f`. -/
def faultsAs (f : Fault) : Host.Outcome State Fault Refusal → Bool
  | .next _ => false
  | .fault x => decide (x = f)
  | .refused _ => false

/-- The vectors' start state `I0` (R241): after `FG INIT 0x08` from power-on. -/
def i0 : State := { State.reset with ackEn := true, irqEn := true, busEn := true, ownAddr := 0x08 }

/-- `I0` in `SlaveReceive`, the vectors' "SR". -/
def sr : State := { i0 with mode := .slaveReceive }

/-- `SlaveReceive` with the ring full: `H=3`, `T=0`. -/
def srFull : State := { sr with rxBuf := [(0, 1), (1, 2), (2, 3)], rxHead := 3 }

/-- `SlaveReceive` with two unread bytes. -/
def srTwo : State := { sr with rxBuf := [(0, 0x41), (1, 0x42)], rxHead := 2 }

/-- `SlaveTransmit` with three bytes staged and one of them loaded. -/
def st : State :=
  { i0 with mode := .slaveTransmit, txBuf := [(0, 0xAA), (1, 0xBB), (2, 0xCC)], txLen := 3, txIdx := 1 }

/-- `I0` after `EV ST_SLA_ACK` with nothing staged: the default payload, W8. -/
def stDefault : State :=
  { i0 with mode := .slaveTransmit, txBuf := [(0, 0x00)], txLen := 1, txIdx := 1, ackEn := false }

/-- The wait of `force_stop`. -/
def waiting : State := { i0 with fgState := .waitStop, stopPending := true }

/-- An event from `s` gives the output record and the end state of a vector. -/
def gives (i : Instr) (s : State) (r : OutputRecord) (t : State) : Bool :=
  next (fun u => decide (outputRecord u = r) && decide ({ u with out := Outputs.quiet } = t)) (exec i s)

/-- A foreground or agent step from `s` gives the result and the end state of a vector. -/
def returns (i : Instr) (s : State) (r : FgResult) (t : State) : Bool :=
  next (fun u => decide (u.out.result = r) && decide ({ u with out := Outputs.quiet } = t)) (exec i s)

/-! ### Decoding: the words of R83, R93 and R95 -/

theorem test_decode_error_and_start :
    reads (.event 0b00000000 0x41) .evBusError = true ∧
    reads (.event 0b00001000 0x41) .evStart = true ∧
    reads (.event 0b00010000 0x41) .evRepStart = true := by decide

theorem test_decode_master :
    reads (.event 0b00011000 0x41) .evMtSlaAck = true ∧
    reads (.event 0b00100000 0x41) .evMtSlaNack = true ∧
    reads (.event 0b00101000 0x41) .evMtDataAck = true ∧
    reads (.event 0b00110000 0x41) .evMtDataNack = true ∧
    reads (.event 0b00111000 0x41) .evArbLost = true ∧
    reads (.event 0b01000000 0x41) .evMrSlaAck = true ∧
    reads (.event 0b01001000 0x41) .evMrSlaNack = true ∧
    reads (.event 0b01010000 0x41) .evMrDataAck = true ∧
    reads (.event 0b01011000 0x41) .evMrDataNack = true := by decide

theorem test_decode_slave_receive :
    reads (.event 0b01100000 0x41) .evSrSlaAck = true ∧
    reads (.event 0b01101000 0x41) .evSrArbLostSlaAck = true ∧
    reads (.event 0b01110000 0x41) .evSrGcallAck = true ∧
    reads (.event 0b01111000 0x41) .evSrArbLostGcallAck = true ∧
    reads (.event 0b10000000 0x41) (.evSrDataAck 0x41) = true ∧
    reads (.event 0b10001000 0x41) .evSrDataNack = true ∧
    reads (.event 0b10010000 0x41) (.evSrGcallDataAck 0x41) = true ∧
    reads (.event 0b10011000 0x41) .evSrGcallDataNack = true ∧
    reads (.event 0b10100000 0x41) .evSrStop = true := by decide

theorem test_decode_slave_transmit :
    reads (.event 0b10101000 0x41) .evStSlaAck = true ∧
    reads (.event 0b10110000 0x41) .evStArbLostSlaAck = true ∧
    reads (.event 0b10111000 0x41) .evStDataAck = true ∧
    reads (.event 0b11000000 0x41) .evStDataNack = true ∧
    reads (.event 0b11001000 0x41) .evStLastData = true := by decide

theorem test_decode_unknown_and_no_info :
    reads (.event 0b11010000 0x41) .evUnknownD0 = true ∧
    reads (.event 0b11011000 0x41) .evUnknownD8 = true ∧
    reads (.event 0b11100000 0x41) .evUnknownE0 = true ∧
    reads (.event 0b11101000 0x41) .evUnknownE8 = true ∧
    reads (.event 0b11110000 0x41) .evUnknownF0 = true ∧
    reads (.event 0b11111000 0x41) .evNoInfo = true := by decide

/-- R93. -/
theorem test_decode_foreground :
    reads (.fg 0b0000 0x08 0 []) (.fgInit 0x08) = true ∧
    reads (.fg 0b0001 0 0 []) .fgRead = true ∧
    reads (.fg 0b0010 0 0 []) .fgResetReadCursor = true ∧
    reads (.fg 0b0011 0 2 [0xA1, 0xA2]) (.fgTransmit 2 [0xA1, 0xA2]) = true ∧
    reads (.fg 0b0011 0 5 []) (.fgTransmit 5 []) = true ∧
    reads (.fg 0b0100 0 0 []) .fgForceStop = true ∧
    reads (.fg 0b0101 0 0 []) .fgReleaseBus = true ∧
    reads (.fg 0b0110 0 0 []) .fgClearError = true ∧
    reads .fgResume .fgResume = true := by decide

/-- R95 and R60. -/
theorem test_decode_agents :
    reads (.clr 0b00) .collabClrStatus = true ∧
    reads (.clr 0b01) .collabClrCycle = true ∧
    reads (.clr 0b10) .collabClrHold = true ∧
    reads .stopDone .busStopdone = true := by decide

/-- V-BSM1 to V-BSM4: bits 2..0 are ignored. -/
theorem test_decode_low_bits :
    reads (.event 0x63 0) .evSrSlaAck = true ∧ reads (.event 0xFF 0) .evNoInfo = true ∧
    reads (.event 0x07 0) .evBusError = true ∧ reads (.event 0xD3 0) .evUnknownD0 = true := by decide

/-- R94 and R95: both ends of the reserved ops, and the reserved clear code. -/
theorem test_decode_reserved :
    rejects (.fg 0x7 0 0 []) (.reservedOp 0x7) = true ∧ rejects (.fg 0xF 0 0 []) (.reservedOp 0xF) = true ∧
    rejects (.clr 3) (.reservedClear 3) = true := by decide

/-- R92: a list of another length than `length` is ill-formed, to the check and to the decoder. -/
theorem test_wf_refuses_wrong_length :
    (Instr.fgTransmit 2 [0x01]).wf = false ∧ (Instr.fgTransmit 0 [0x01]).wf = false ∧
    rejects (.fg 0x3 0 2 [0x01]) (.lengthMismatch 2 1) = true ∧
    rejects (.fg 0x3 0 0 [0x01]) (.lengthMismatch 0 1) = true := by decide

/-- The words of spec/opcode_table.json, in the host's numbering. -/
theorem test_decode_table_word :
    decodeTableWord 8 0xA0 = some .evSrStop ∧ decodeTableWord 8 0x80 = some (.evSrDataAck 0) ∧
    decodeTableWord 8 0x01 = some .fgRead ∧ decodeTableWord 4 0x0 = some (.fgInit 0) ∧
    decodeTableWord 2 0x2 = some .collabClrHold ∧ decodeTableWord 4 0x7 = none := by decide

/-- The placed word is the next instruction, from reset. -/
theorem test_fetch_word :
    next (fun u => decide (u.mode = .slaveReceive)) (step (State.reset.withFetchWord 8 0x60)) = true ∧
    next (fun u => decide (u.fgState = .waitStop)) (step (State.reset.withFetchWord 8 0x04)) = true := by decide

/-- R96 and R97: the written lines and the sequences of the pseudo-instructions. -/
theorem test_program_text :
    programLine (.evSrDataAck 0x3F) = "EV SR_DATA_ACK, 0x3F" ∧ programLine .evUnknownE8 = "EV S=0xE8" ∧
    programLine (.fgTransmit 2 [0x12, 0x34]) = "FG TRANSMIT [0x12, 0x34]" ∧
    programLine (.fgTransmit 5 []) = "FG TRANSMIT len=5" ∧
    masterWrite [0x41, 0x42] = [.evSrSlaAck, .evSrDataAck 0x41, .evSrDataAck 0x42, .evSrStop] ∧
    masterRead 2 = [.evStSlaAck, .evStDataAck, .evStDataNack] ∧ drain srTwo = [.fgRead, .fgRead, .fgRead] := by
  decide

/-! ### One step per status code, from `I0` (95 §2.3) -/

theorem test_vector_ev_bus_error :
    gives .evBusError i0
      ⟨none, true, true, true, false⟩ { i0 with errLatch := 0x00, stopPending := true } = true := by decide

theorem test_vector_ev_start :
    gives .evStart i0
      ⟨some 0x10, true, false, true, false⟩ i0 = true := by decide

theorem test_vector_ev_rep_start :
    gives .evRepStart i0
      ⟨some 0x10, true, false, true, false⟩ i0 = true := by decide

theorem test_vector_ev_mt_sla_ack :
    gives .evMtSlaAck i0
      ⟨none, true, true, true, false⟩ { i0 with stopPending := true } = true := by decide

theorem test_vector_ev_mt_sla_nack :
    gives .evMtSlaNack i0
      ⟨none, true, true, true, false⟩ { i0 with stopPending := true } = true := by decide

theorem test_vector_ev_mt_data_ack :
    gives .evMtDataAck i0
      ⟨none, true, true, true, false⟩ { i0 with stopPending := true } = true := by decide

theorem test_vector_ev_mt_data_nack :
    gives .evMtDataNack i0
      ⟨none, true, true, true, false⟩ { i0 with stopPending := true } = true := by decide

theorem test_vector_ev_arb_lost :
    gives .evArbLost i0
      ⟨none, true, false, true, false⟩ i0 = true := by decide

theorem test_vector_ev_mr_sla_ack :
    gives .evMrSlaAck i0
      ⟨none, true, true, true, false⟩ { i0 with stopPending := true } = true := by decide

theorem test_vector_ev_mr_sla_nack :
    gives .evMrSlaNack i0
      ⟨none, true, true, true, false⟩ { i0 with stopPending := true } = true := by decide

theorem test_vector_ev_mr_data_ack :
    gives .evMrDataAck i0
      ⟨none, true, true, true, false⟩ { i0 with stopPending := true } = true := by decide

theorem test_vector_ev_mr_data_nack :
    gives .evMrDataNack i0
      ⟨none, true, true, true, false⟩ { i0 with stopPending := true } = true := by decide

theorem test_vector_ev_sr_sla_ack :
    gives .evSrSlaAck i0
      ⟨none, true, false, true, false⟩ sr = true := by decide

theorem test_vector_ev_sr_arb_lost_sla_ack :
    gives .evSrArbLostSlaAck i0
      ⟨none, true, false, true, false⟩ sr = true := by decide

theorem test_vector_ev_sr_gcall_ack :
    gives .evSrGcallAck i0
      ⟨none, true, false, true, false⟩ sr = true := by decide

theorem test_vector_ev_sr_arb_lost_gcall_ack :
    gives .evSrArbLostGcallAck i0
      ⟨none, true, false, true, false⟩ sr = true := by decide

theorem test_vector_ev_sr_data_ack :
    gives (.evSrDataAck 0x41) i0
      ⟨none, true, false, true, false⟩ { i0 with rxBuf := [(0, 0x41)], rxHead := 1 } = true := by decide

theorem test_vector_ev_sr_data_nack :
    gives .evSrDataNack i0
      ⟨none, false, false, true, false⟩ { i0 with ackEn := false } = true := by decide

theorem test_vector_ev_sr_gcall_data_ack :
    gives (.evSrGcallDataAck 0x41) i0
      ⟨none, true, false, true, false⟩ { i0 with rxBuf := [(0, 0x41)], rxHead := 1 } = true := by decide

theorem test_vector_ev_sr_gcall_data_nack :
    gives .evSrGcallDataNack i0
      ⟨none, false, false, true, false⟩ { i0 with ackEn := false } = true := by decide

theorem test_vector_ev_sr_stop :
    gives .evSrStop i0
      ⟨none, true, true, true, false⟩ { i0 with rxBuf := [(0, 0x00)], stopPending := true } = true := by decide

theorem test_vector_ev_st_sla_ack :
    gives .evStSlaAck i0
      ⟨some 0x00, false, false, true, false⟩ stDefault = true := by decide

theorem test_vector_ev_st_arb_lost_sla_ack :
    gives .evStArbLostSlaAck i0
      ⟨some 0x00, false, false, true, false⟩ stDefault = true := by decide

theorem test_vector_ev_st_data_ack :
    gives .evStDataAck i0
      ⟨some 0x00, false, false, true, false⟩ { i0 with ackEn := false } = true := by decide

theorem test_vector_ev_st_data_nack :
    gives .evStDataNack i0
      ⟨none, true, false, true, false⟩ i0 = true := by decide

theorem test_vector_ev_st_last_data :
    gives .evStLastData i0
      ⟨none, true, false, true, false⟩ i0 = true := by decide

theorem test_vector_ev_unknown_d0 :
    gives .evUnknownD0 i0
      ⟨none, true, true, true, false⟩ { i0 with errLatch := 0xD0, stopPending := true } = true := by decide

theorem test_vector_ev_unknown_d8 :
    gives .evUnknownD8 i0
      ⟨none, true, true, true, false⟩ { i0 with errLatch := 0xD8, stopPending := true } = true := by decide

theorem test_vector_ev_unknown_e0 :
    gives .evUnknownE0 i0
      ⟨none, true, true, true, false⟩ { i0 with errLatch := 0xE0, stopPending := true } = true := by decide

theorem test_vector_ev_unknown_e8 :
    gives .evUnknownE8 i0
      ⟨none, true, true, true, false⟩ { i0 with errLatch := 0xE8, stopPending := true } = true := by decide

theorem test_vector_ev_unknown_f0 :
    gives .evUnknownF0 i0
      ⟨none, true, true, true, false⟩ { i0 with errLatch := 0xF0, stopPending := true } = true := by decide

theorem test_vector_ev_no_info :
    gives .evNoInfo i0
      ⟨none, true, false, false, false⟩ i0 = true := by decide

/-! ### Corner cases of the status codes -/

/-- V-INT1. -/
theorem test_command_status :
    gives (.evSrDataAck 0x3F) sr ⟨none, true, false, true, false⟩ { sr with reqStatus := true } = true := by decide

/-- V-INT3. -/
theorem test_command_hold_general_call :
    gives (.evSrGcallDataAck 0x21) sr ⟨none, true, false, true, false⟩ { sr with reqHold := true } = true := by decide

/-- V-INT2 and V-INT4. -/
theorem test_command_cycle_and_reset :
    gives (.evSrDataAck 0x7E) sr ⟨none, true, false, true, false⟩ { sr with reqCycle := true } = true ∧
    gives (.evSrDataAck 0x18) sr ⟨none, true, false, true, true⟩ sr = true := by decide

/-- V-INT5 and W7: a command on a full ring is performed but not acknowledged, and a payload byte is dropped. -/
theorem test_full_ring :
    gives (.evSrDataAck 0x3F) srFull ⟨none, false, false, true, false⟩
      { srFull with reqStatus := true, ackEn := false } = true ∧
    gives (.evSrDataAck 0x04) srFull ⟨none, false, false, true, false⟩ { srFull with ackEn := false } = true := by
  decide

/-- V-INT6 and V-INT7: outside `SlaveReceive` a command value is payload. -/
theorem test_command_value_outside_receive :
    gives (.evSrDataAck 0x3F) i0 ⟨none, true, false, true, false⟩
      { i0 with rxBuf := [(0, 0x3F)], rxHead := 1 } = true ∧
    gives (.evSrGcallDataAck 0x18) st ⟨none, true, false, true, false⟩
      { st with rxBuf := [(0, 0x18)], rxHead := 1 } = true := by decide

/-- V-RB2: a push at the last slot wraps. -/
theorem test_push_wraps :
    gives (.evSrDataAck 0x55) { sr with rxHead := 3, rxTail := 1 } ⟨none, true, false, true, false⟩
      { sr with rxBuf := [(3, 0x55)], rxHead := 0, rxTail := 1 } = true := by decide

/-- V-RB8 and V-RB9: the terminator lands on the oldest unread byte, and on nothing when the ring is full. -/
theorem test_stop_terminator :
    gives .evSrStop srTwo ⟨none, true, true, true, false⟩
      { srTwo with rxBuf := [(0, 0x00), (1, 0x42)], mode := .ready, stopPending := true } = true ∧
    gives .evSrStop srFull ⟨none, true, true, true, false⟩
      { srFull with mode := .ready, stopPending := true } = true := by decide

/-- V-BSM7 and V-BSM8: the first staged byte, the last or not. -/
theorem test_first_byte :
    gives .evStSlaAck { i0 with txBuf := [(0, 0x99)], txLen := 1 } ⟨some 0x99, false, false, true, false⟩
      { i0 with mode := .slaveTransmit, txBuf := [(0, 0x99)], txLen := 1, txIdx := 1, ackEn := false } = true ∧
    gives .evStArbLostSlaAck { st with txIdx := 3, ackEn := false } ⟨some 0xAA, true, false, true, false⟩ st = true := by
  decide

/-- R168's example, V-BSM9 and V-BSM10: the middle byte, the last, the fill, and a load in `Ready`. -/
theorem test_next_byte :
    gives .evStDataAck st ⟨some 0xBB, true, false, true, false⟩ { st with txIdx := 2 } = true ∧
    gives .evStDataAck { st with txIdx := 2 } ⟨some 0xCC, false, false, true, false⟩
      { st with txIdx := 3, ackEn := false } = true ∧
    gives .evStDataAck { st with txIdx := 3 } ⟨some 0x00, false, false, true, false⟩
      { st with txIdx := 3, ackEn := false } = true ∧
    gives .evStDataAck { st with mode := .ready, txIdx := 0 } ⟨some 0xAA, true, false, true, false⟩
      { st with mode := .ready, txIdx := 1 } = true := by decide

/-- V-BSM5, V-BSM12 and V-BSM15: what each leaves alone. -/
theorem test_left_alone :
    gives .evArbLost { sr with ackEn := false } ⟨none, true, false, true, false⟩ i0 = true ∧
    gives .evBusError { srTwo with reqStatus := true } ⟨none, true, true, true, false⟩
      { srTwo with mode := .ready, reqStatus := true, errLatch := 0x00, stopPending := true } = true ∧
    gives .evNoInfo { st with ackEn := false } ⟨none, false, false, false, false⟩ { st with ackEn := false } = true ∧
    gives .evSrSlaAck st ⟨none, true, false, true, false⟩ { st with mode := .slaveReceive } = true := by decide

/-! ### Foreground and agents (95 §2.5) -/

/-- V-API3, V-API5 and V-API6. -/
theorem test_init :
    returns (.fgInit 0x08) State.reset .done i0 = true ∧
    returns (.fgInit 0x22) srTwo .done
      { i0 with ownAddr := 0x22, rxBuf := srTwo.rxBuf, modelFault := [.initMidTransaction] } = true ∧
    returns (.fgInit 0x08) { i0 with rxBuf := [(0, 0x00)], rxHead := 1, rxMark := 1, reqHold := true } .done
      { i0 with rxBuf := [(0, 0x00)], reqHold := true } = true := by decide

/-- V-API1, V-RB5 and P5 step 8. -/
theorem test_read :
    returns .fgRead State.reset (.read none) State.reset = true ∧
    returns .fgRead { i0 with rxBuf := [(3, 0x55)], rxTail := 3 } (.read (some 0x55)) { i0 with rxBuf := [(3, 0x55)] } = true ∧
    returns .fgRead { srTwo with rxTail := 2 } (.read none) { srTwo with rxTail := 2, rxMark := 2 } = true := by decide

/-- V-RB10 and V-RB11. -/
theorem test_reset_read_cursor :
    returns .fgResetReadCursor { srFull with rxTail := 2 } .done srFull = true ∧
    returns .fgResetReadCursor { srTwo with rxTail := 2, rxMark := 2 } .done { srTwo with rxTail := 2, rxMark := 2 } = true := by
  decide

/-- W5 step 4, V-API7 and V-API12. -/
theorem test_transmit_stages :
    returns (.fgTransmit 3 [0xA1, 0xA2, 0xA3]) st .transmitOk
      { st with txBuf := [(0, 0xA1), (1, 0xA2), (2, 0xA3)], txLen := 3 } = true ∧
    returns (.fgTransmit 0 []) st .transmitOk { st with txLen := 0 } = true ∧
    returns (.fgTransmit 1 [0x0A]) { st with txIdx := 2 } .transmitOk
      { st with txBuf := [(0, 0x0A), (1, 0xBB), (2, 0xCC)], txLen := 1, txIdx := 2 } = true := by decide

/-- V-API2, V-API8's bound, V-API9, V-API10 and V-API11. -/
theorem test_transmit_errors :
    returns (.fgTransmit 1 [0x01]) State.reset (.transmitErr .wrongMode) State.reset = true ∧
    returns (.fgTransmit 4 [1, 2, 3, 4]) i0 (.transmitErr .wrongMode) i0 = true ∧
    returns (.fgTransmit 5 []) st (.transmitErr .tooLarge) st = true ∧
    returns (.fgTransmit 5 []) i0 (.transmitErr .tooLarge) i0 = true ∧
    returns (.fgTransmit 2 [0x01, 0x02]) sr (.transmitErr .wrongMode) sr = true := by decide

/-- V-API13 to V-API16: the two halves of `force_stop`, and the refusals between them. -/
theorem test_force_stop :
    next (fun u => decide (u.out.stopReq = true) && decide ({ u with out := Outputs.quiet } = waiting))
      (exec .fgForceStop i0) = true ∧
    refusedAs .resumeNotEnabled (exec .fgResume waiting) = true ∧
    refusedAs .foregroundBusy (exec .fgRead waiting) = true ∧
    returns .fgResume { waiting with mode := .slaveReceive, stopPending := false } .done i0 = true := by decide

/-- V-API17 and V-API18. -/
theorem test_release_bus :
    next (fun u => decide (u.out.release = true) && decide (u.out.stopReq = false)) (exec .fgReleaseBus i0) = true ∧
    returns .fgReleaseBus { srFull with ackEn := false } .done srFull = true ∧
    returns .fgReleaseBus State.reset .done { State.reset with ackEn := true, irqEn := true } = true ∧
    refusedAs .eventNotEnabled (exec .evSrSlaAck { State.reset with irqEn := true }) = true := by decide

/-- V-API19. -/
theorem test_clear_error :
    returns .fgClearError { i0 with errLatch := 0xE8 } .done i0 = true := by decide

/-- R60: enabled while `STOP_PENDING = 1` only. -/
theorem test_stop_done :
    returns .busStopdone { i0 with stopPending := true } .inactive i0 = true ∧
    refusedAs .stopDoneNotEnabled (exec .busStopdone i0) = true := by decide

/-- V-INT11 and V-INT12. -/
theorem test_clear_flags :
    returns .collabClrStatus { i0 with reqStatus := true, reqHold := true } .inactive { i0 with reqHold := true } = true ∧
    returns .collabClrCycle { i0 with reqStatus := true } .inactive { i0 with reqStatus := true } = true ∧
    returns .collabClrHold { i0 with reqCycle := true, reqHold := true } .inactive { i0 with reqCycle := true } = true := by
  decide

/-- R40, R41, R90 and R98: the ports, and R88's byte. -/
theorem test_ports :
    readModePort st = some 2 ∧ readErrPort i0 = some 0xFF ∧ readModePort waiting = none ∧
    readFlagPorts { i0 with reqCycle := true } = (false, true, false) ∧
    slaByte 0x08 0 = 0x10 ∧ slaAddress 0x11 = 0x08 ∧ slaReadWrite 0x11 = 1 := by decide

/-- V-RB6 and V-RB4: the predicates of R57. -/
theorem test_ring_predicates :
    rxCount { i0 with rxHead := 1, rxTail := 3 } = 2 ∧ rxEmpty { i0 with rxHead := 2, rxTail := 2 } = true ∧
    rxFull { i0 with rxHead := 0, rxTail := 1 } = true ∧ unread srTwo = [0x41, 0x42] := by decide

/-! ### Witnesses: a concrete state and operands for the hypotheses of each statement -/

/-- States of the invariant: power-on, receiving (empty, partly and wholly filled, wrapped), transmitting, waiting. -/
theorem witness_Inv :
    meetsInv State.reset = true ∧ meetsInv i0 = true ∧ meetsInv srTwo = true ∧ meetsInv srFull = true ∧ meetsInv st = true ∧ meetsInv waiting = true ∧
    meetsInv { sr with rxBuf := [(0, 9), (3, 8)], rxHead := 1, rxTail := 3, rxMark := 3 } = true := by decide

theorem witness_DecodeIgnoresLowStatusBits : (0x63 : Byte) &&& 0xF8 = 0x60 &&& 0xF8 := by decide

theorem witness_DecodeIgnoresUnreadData :
    ((0xF8 : Byte) &&& 0xF8 ≠ 0x80 ∧ (0xF8 : Byte) &&& 0xF8 ≠ 0x90) ∧ (0x87 : Byte) &&& 0xF8 = 0x80 ∧
    (0x97 : Byte) &&& 0xF8 = 0x90 := by decide

theorem witness_DecodeEncodeRoundTrip :
    (Instr.fgTransmit 2 [0xFF, 0x00]).wf = true ∧ (Instr.fgTransmit 5 []).wf = true ∧ (Instr.fgInit 0x7F).wf = true := by
  decide

theorem witness_CanonicalRequestIsEncoded :
    reads (.event 0x90 0xFF) (.evSrGcallDataAck 0xFF) = true ∧ (Request.event 0x90 0xFF).canonical = true ∧
    reads (.fg 0x3 0 2 [1, 2]) (.fgTransmit 2 [1, 2]) = true ∧ (Request.fg 0x3 0 2 [1, 2]).canonical = true := by decide

theorem witness_ReservedRequestsRefused :
    (7 ≤ (7 : BitVec 4).toNat ∧ i0.cfg.wf = true ∧
      State.inputs { i0 with inputs := [.fg 7 0 0 []] } = .fg 7 0 0 [] :: []) ∧
    (7 ≤ (15 : BitVec 4).toNat) ∧ State.inputs { i0 with inputs := [.clr 3] } = .clr 3 :: [] := by decide

theorem witness_StepRunsDecodedRequest :
    i0.cfg.wf = true ∧ State.inputs { i0 with inputs := [.event 0x60 0, .stopDone] } = .event 0x60 0 :: [.stopDone] ∧
    reads (.event 0x60 0) .evSrSlaAck = true ∧ completes (step { i0 with inputs := [.event 0x60 0, .stopDone] }) = true := by
  decide

/-- Each clause of R9 at its boundary, and the smallest configuration that meets R9. -/
theorem witness_BadConfigurationRefused :
    State.cfg { i0 with cfg := { resetParams with nRx := 1 } } = { resetParams with nRx := 1 } ∧
    Config.Params.nRx { resetParams with nRx := 1 } < 2 ∧
    Config.Params.nTx { resetParams with nTx := 0 } < 1 ∧
    Config.Params.cmdStatusReport { resetParams with cmdCycleStart := 0x3F } = Config.Params.cmdCycleStart { resetParams with cmdCycleStart := 0x3F } ∧
    Config.Params.cmdStatusReport { resetParams with cmdFeedHold := 0x3F } = Config.Params.cmdFeedHold { resetParams with cmdFeedHold := 0x3F } ∧
    Config.Params.cmdStatusReport { resetParams with cmdReset := 0x3F } = Config.Params.cmdReset { resetParams with cmdReset := 0x3F } ∧
    Config.Params.cmdCycleStart { resetParams with cmdFeedHold := 0x7E } = Config.Params.cmdFeedHold { resetParams with cmdFeedHold := 0x7E } ∧
    Config.Params.cmdCycleStart { resetParams with cmdReset := 0x7E } = Config.Params.cmdReset { resetParams with cmdReset := 0x7E } ∧
    Config.Params.cmdFeedHold { resetParams with cmdReset := 0x21 } = Config.Params.cmdReset { resetParams with cmdReset := 0x21 } ∧
    Config.Params.wf { resetParams with nRx := 2, nTx := 1 } = true := by decide

theorem witness_DisabledStepRefused :
    (enabled (stepKind .evNoInfo) State.reset = false ∧ disabledRefusal (stepKind .evNoInfo) = some .eventNotEnabled) ∧
    (enabled (stepKind .busStopdone) i0 = false ∧ disabledRefusal (stepKind .busStopdone) = some .stopDoneNotEnabled) ∧
    (enabled (stepKind .fgRead) waiting = false ∧ disabledRefusal (stepKind .fgRead) = some .foregroundBusy) ∧
    (enabled (stepKind .fgResume) waiting = false ∧ disabledRefusal (stepKind .fgResume) = some .resumeNotEnabled) := by
  decide

theorem witness_EnabledStepCompletes :
    meetsInv srTwo = true ∧ enabled (stepKind .evSrStop) srTwo = true ∧ enabled (stepKind .fgRead) srTwo = true ∧
    enabled (stepKind .collabClrHold) srTwo = true ∧ meetsInv waiting = true ∧ enabled (stepKind .busStopdone) waiting = true ∧
    meetsInv { waiting with stopPending := false } = true ∧
    enabled (stepKind .fgResume) { waiting with stopPending := false } = true := by decide

theorem witness_NoStepFaults :
    meetsInv { srTwo with inputs := [.event 0xA0 0] } = true ∧ completes (step { srTwo with inputs := [.event 0xA0 0] }) = true := by
  decide

/-- Each clause of the statement at the first index outside its space. -/
theorem witness_IndexOutsideStorageFaults :
    faultsAs (.noSuchByte .rx 4) (exec .fgRead { i0 with rxTail := 4 }) = true ∧
    faultsAs (.noSuchByte .rx 4) (exec .evSrStop { i0 with rxTail := 4 }) = true ∧
    (intercepted { i0 with rxHead := 4 } 0x41 = none ∧ ({ i0 with rxHead := 4 } : State).cfg.nRx ≤ 4 ∧
      faultsAs (.noSuchByte .rx 4) (exec (.evSrDataAck 0x41) { i0 with rxHead := 4 }) = true) ∧
    faultsAs (.noSuchByte .tx 0) (exec .evStSlaAck { i0 with cfg := { resetParams with nTx := 0 } }) = true ∧
    faultsAs (.noSuchByte .tx 4) (exec .evStDataAck { st with txIdx := 4, txLen := 5 }) = true := by decide

theorem witness_StartCodesLoadPendingAddress :
    (i0.busEn = true ∧ i0.irqEn = true) ∧
    completes (exec .evStart i0) = true ∧
    (st.busEn = true ∧ st.irqEn = true) ∧
    completes (exec .evRepStart st) = true := by decide

theorem witness_AddressedAsReceiver :
    (i0.busEn = true ∧ i0.irqEn = true) ∧
    completes (exec .evSrSlaAck i0) = true ∧
    (st.busEn = true ∧ st.irqEn = true) ∧
    completes (exec .evSrArbLostSlaAck st) = true ∧
    (srTwo.busEn = true ∧ srTwo.irqEn = true) ∧
    completes (exec .evSrGcallAck srTwo) = true ∧
    (waiting.busEn = true ∧ waiting.irqEn = true) ∧
    completes (exec .evSrArbLostGcallAck waiting) = true := by decide

theorem witness_RefusedDataByteDiscarded :
    (srFull.busEn = true ∧ srFull.irqEn = true) ∧
    completes (exec .evSrDataNack srFull) = true ∧
    (i0.busEn = true ∧ i0.irqEn = true) ∧
    completes (exec .evSrGcallDataNack i0) = true := by decide

theorem witness_TransmitEnds :
    (st.busEn = true ∧ st.irqEn = true) ∧
    completes (exec .evStDataNack st) = true ∧
    (i0.busEn = true ∧ i0.irqEn = true) ∧
    completes (exec .evStLastData i0) = true := by decide

theorem witness_NoInfoChangesNothing :
    (st.busEn = true ∧ st.irqEn = true) ∧
    completes (exec .evNoInfo st) = true := by decide

theorem witness_BusErrorRecovers :
    (st.busEn = true ∧ st.irqEn = true) ∧
    completes (exec .evBusError st) = true ∧
    (waiting.busEn = true ∧ waiting.irqEn = true) ∧
    completes (exec .evBusError waiting) = true := by decide

theorem witness_UnknownCodeRecovers :
    (i0.busEn = true ∧ i0.irqEn = true) ∧
    completes (exec .evUnknownD0 i0) = true ∧
    (sr.busEn = true ∧ sr.irqEn = true) ∧
    completes (exec .evUnknownD8 sr) = true ∧
    (st.busEn = true ∧ st.irqEn = true) ∧
    completes (exec .evUnknownE0 st) = true ∧
    (srFull.busEn = true ∧ srFull.irqEn = true) ∧
    completes (exec .evUnknownE8 srFull) = true ∧
    (waiting.busEn = true ∧ waiting.irqEn = true) ∧
    completes (exec .evUnknownF0 waiting) = true := by decide

theorem witness_MasterCodesEndTransaction :
    (i0.busEn = true ∧ i0.irqEn = true) ∧
    completes (exec .evMtSlaAck i0) = true ∧
    (sr.busEn = true ∧ sr.irqEn = true) ∧
    completes (exec .evMtSlaNack sr) = true ∧
    (st.busEn = true ∧ st.irqEn = true) ∧
    completes (exec .evMtDataAck st) = true ∧
    (srFull.busEn = true ∧ srFull.irqEn = true) ∧
    completes (exec .evMtDataNack srFull) = true ∧
    completes (exec .evMrSlaAck i0) = true ∧
    completes (exec .evMrSlaNack sr) = true ∧
    completes (exec .evMrDataAck st) = true ∧
    (waiting.busEn = true ∧ waiting.irqEn = true) ∧
    completes (exec .evMrDataNack waiting) = true := by decide

theorem witness_ArbitrationLossIssuesNoStop :
    (sr.busEn = true ∧ sr.irqEn = true) ∧
    completes (exec .evArbLost sr) = true := by decide

/-- A command byte, a payload byte on a full ring, and a payload byte at the last slot. -/
theorem witness_DataByteReceived :
    (sr.busEn = true ∧ sr.irqEn = true ∧ sr.mode = .slaveReceive ∧
      intercept sr.cfg 0x18 = some .requestReset) ∧
    (intercept srFull.cfg 0x04 = none ∧ (srFull.rxHead + 1) % srFull.cfg.nRx = srFull.rxTail) ∧
    (intercept sr.cfg 0x04 = none ∧ (3 + 1) % sr.cfg.nRx ≠ 1 ∧ 3 < sr.cfg.nRx ∧
      completes (exec (.evSrDataAck 0x04) { sr with rxHead := 3, rxTail := 1 }) = true) := by decide

theorem witness_CommandBytePerformed :
    sr.busEn = true ∧ sr.irqEn = true ∧ sr.cfg.wf = true ∧ sr.mode = .slaveReceive ∧
    (0x3F : Byte) = sr.cfg.cmdStatusReport ∧ (0x7E : Byte) = sr.cfg.cmdCycleStart ∧ (0x21 : Byte) = sr.cfg.cmdFeedHold ∧
    (0x18 : Byte) = sr.cfg.cmdReset := by decide

theorem witness_InterceptMatchesReservedBytes :
    resetParams.wf = true ∧ intercept resetParams 0x3F = some .requestStatusReport ∧ intercept resetParams 0x00 = none := by
  decide

theorem witness_CommandValueOutsideReceiveIsPayload :
    st.busEn = true ∧ st.irqEn = true ∧ st.mode ≠ .slaveReceive ∧ st.rxHead < st.cfg.nRx ∧ rxFull st = false ∧
    completes (exec (.evSrDataAck 0x18) st) = true := by decide

theorem witness_StopWhileReceiving :
    ((srFull.rxHead + 1) % srFull.cfg.nRx = srFull.rxTail ∧ srFull.busEn = true ∧ srFull.irqEn = true) ∧
    ((sr.rxHead + 1) % sr.cfg.nRx ≠ 3 ∧ 3 < sr.cfg.nRx ∧ completes (exec .evSrStop { sr with rxTail := 3 }) = true) := by
  decide

theorem witness_AddressedAsTransmitter :
    (i0.busEn = true ∧ i0.irqEn = true ∧ 1 ≤ i0.cfg.nTx ∧ i0.txLen = 0) ∧
    (1 ≤ State.txLen { st with txLen := 1 } ∧ completes (exec .evStSlaAck { st with txLen := 1 }) = true) := by decide

theorem witness_TransmittedByteAcknowledged :
    (st.busEn = true ∧ st.irqEn = true ∧ st.txIdx < st.txLen ∧ st.txIdx < st.cfg.nTx) ∧
    (3 < 4 ∧ 3 < st.cfg.nTx ∧ completes (exec .evStDataAck { st with
      txBuf := [(0, 1), (1, 2), (2, 3), (3, 4)], txLen := 4, txIdx := 3 }) = true) ∧
    (st.txLen ≤ 3 ∧ completes (exec .evStDataAck { st with txIdx := 3 }) = true) := by decide

theorem witness_EventRunsItsClassAction :
    reads (.event 0xA3 0x41) .evSrStop = true ∧ (srTwo.busEn = true ∧ srTwo.irqEn = true) := by decide

/-- One event of each class completes. -/
theorem witness_ModeAfterEachClass :
    ([(0x08 : Byte), 0x60, 0x80, 0x88, 0xA0, 0xA8, 0xB8, 0xC0, 0xF8, 0x00, 0x18, 0x38, 0xD0].all fun S =>
      completes (exec (decodeStatus S 0x41) srTwo)) = true := by decide

theorem witness_ReadPopsOrMarks :
    (i0.fgState = .idle ∧ i0.rxHead = i0.rxTail) ∧
    (srTwo.fgState = .idle ∧ srTwo.rxHead ≠ 3 ∧ 3 < srTwo.cfg.nRx ∧
      completes (exec .fgRead { srTwo with rxBuf := [(0, 1), (1, 2), (3, 3)], rxTail := 3 }) = true) := by decide

/-- Each clause at its boundary: one byte too many, exactly `N_TX` bytes in the wrong mode and in the right one, no byte. -/
theorem witness_TransmitStagesPayload :
    (st.fgState = .idle ∧ st.cfg.nTx < [(1 : Byte), 2, 3, 4, 5].length) ∧
    (i0.fgState = .idle ∧ [(1 : Byte), 2, 3, 4].length ≤ i0.cfg.nTx ∧ i0.mode ≠ .slaveTransmit) ∧
    ([(1 : Byte), 2, 3, 4].length ≤ st.cfg.nTx ∧ st.mode = .slaveTransmit ∧
      completes (exec (.fgTransmit 4 [1, 2, 3, 4]) st) = true ∧ completes (exec (.fgTransmit 0 []) st) = true) := by decide

theorem witness_TransmitOfUnspecifiedBytes :
    (st.fgState = .idle ∧ st.cfg.nTx < 5) ∧ (i0.fgState = .idle ∧ 4 ≤ i0.cfg.nTx ∧ i0.mode ≠ .slaveTransmit) ∧
    (1 ≤ 4 ∧ 4 ≤ st.cfg.nTx ∧ st.mode = .slaveTransmit ∧ completes (exec (.fgTransmit 4 []) st) = true ∧
      completes (exec (.fgTransmit 1 []) st) = true) := by decide

theorem witness_ResetReadCursorRewinds :
    (srTwo.fgState = .idle) ∧
    completes (exec .fgResetReadCursor srTwo) = true := by decide

theorem witness_InitResetsRegisters :
    (srTwo.fgState = .idle) ∧
    completes (exec (.fgInit 0x7F) srTwo) = true := by decide

theorem witness_ForceStopWaits :
    (sr.fgState = .idle) ∧
    completes (exec .fgForceStop sr) = true := by decide

theorem witness_ReleaseBusReenables :
    (srFull.fgState = .idle) ∧
    completes (exec .fgReleaseBus srFull) = true := by decide

theorem witness_ClearErrorClearsLatch :
    (st.fgState = .idle) ∧
    completes (exec .fgClearError st) = true := by decide

theorem witness_ReadPortsShowRegisters : st.fgState = .idle ∧ waiting.fgState = .waitStop := by decide

theorem witness_ResumeEndsWait :
    State.fgState { waiting with stopPending := false } = .waitStop ∧
    State.stopPending { waiting with stopPending := false } = false ∧
    completes (exec .fgResume { waiting with stopPending := false }) = true := by decide

theorem witness_StopDoneClearsPending : waiting.stopPending = true ∧ i0.stopPending = false := by decide

theorem witness_PowerOnBehaviour :
    stepKind .evSrSlaAck = .event ∧ (4 ≤ resetParams.nTx) := by decide

theorem witness_InvariantHoldsAtPowerOn :
    resetParams.wf = true ∧ Config.Params.wf { resetParams with nRx := 2, nTx := 1 } = true := by decide

theorem witness_StepKeepsInvariant :
    meetsInv { srTwo with inputs := [.event 0x80 0x43] } = true ∧
    next (fun u => rxFull u) (step { srTwo with inputs := [.event 0x80 0x43] }) = true := by decide

/-- Before and after the enables are set. -/
theorem witness_StepKeepsInertUntilInit :
    State.InertUntilInit { State.reset with inputs := [.fg 0 0x08 0 []] } ∧
    next (fun u => u.busEn) (step { State.reset with inputs := [.fg 0 0x08 0 []] }) = true ∧
    srTwo.InertUntilInit := by decide

theorem witness_RingRefinesBoundedQueue :
    (meetsInv srTwo = true ∧ srTwo.busEn = true ∧ srTwo.irqEn = true ∧ intercepted srTwo 0x43 = none ∧
      (unread srTwo).length < srTwo.cfg.nRx - 1 ∧ srTwo.fgState = .idle) ∧
    (meetsInv srFull = true ∧ intercepted srFull 0x43 = none ∧ (unread srFull).length = srFull.cfg.nRx - 1) ∧
    (meetsInv sr = true ∧ unread sr = []) := by decide

/-- Three bytes since the mark, as many as the ring holds. -/
theorem witness_RewindReplaysSinceMark :
    meetsInv srTwo = true ∧ srTwo.busEn = true ∧ srTwo.irqEn = true ∧ srTwo.fgState = .idle ∧ srTwo.rxTail = srTwo.rxMark ∧
    intercepted srTwo 0x43 = none ∧
    noFullDrain (unread srTwo).length [.read, .arrive 0x43, .read] = true ∧
    noFullDrain (unread srTwo).length [.arriveByGeneralCall 0x43, .read, .read] = true ∧
    (unread srTwo).length + ([PeekStep.read, .arrive 0x43, .read].filterMap PeekStep.byte?).length ≤ srTwo.cfg.nRx - 1 ∧
    (unread srTwo).length + ([PeekStep.arriveByGeneralCall 0x43, .read, .read].filterMap PeekStep.byte?).length
      ≤ srTwo.cfg.nRx - 1 := by
  decide

/-- An empty ring, a partly filled one and a full one. -/
theorem witness_TerminatorOverwritesOldestUnread :
    (meetsInv sr = true ∧ unread sr = [] ∧ completes (exec .evSrStop sr) = true) ∧
    (meetsInv srTwo = true ∧ (unread srTwo).length = 2 ∧ completes (exec .evSrStop srTwo) = true) ∧
    (meetsInv srFull = true ∧ (unread srFull).length = srFull.cfg.nRx - 1 ∧ completes (exec .evSrStop srFull) = true) := by decide

theorem witness_ReadsOnlyWrittenBytes :
    (meetsInv srTwo = true ∧ next (fun u => decide (u.out.result = .read (some 0x41))) (exec .fgRead srTwo) = true) ∧
    (meetsInv st = true ∧ st.txIdx < st.txLen ∧ next (fun u => decide (u.out.load = some 0xBB)) (exec .evStDataAck st) = true) ∧
    (meetsInv i0 = true ∧ next (fun u => decide (u.out.load = some 0x00)) (exec .evStSlaAck i0) = true) := by decide

/-- Storing and non-storing instructions that answer a state. -/
theorem witness_UnstoredBytesUnchanged :
    (storedRx .evSrStop srTwo = some 0 ∧ completes (exec .evSrStop srTwo) = true) ∧
    (storedRx (.evSrDataAck 0x43) srTwo = some 2 ∧ completes (exec (.evSrDataAck 0x43) srTwo) = true) ∧
    (storedTx (.fgTransmit 4 [1, 2, 3, 4]) st = 4 ∧ completes (exec (.fgTransmit 4 [1, 2, 3, 4]) st) = true) ∧
    (storedTx .evStSlaAck i0 = 1 ∧ storedTx .evStSlaAck st = 0) := by decide

/-- For each register of the statement, an instruction that changes it. -/
theorem witness_WritersOfEachRegister :
    next (fun u => decide (u.mode ≠ i0.mode)) (exec .evSrSlaAck i0) = true ∧
    next (fun u => decide (u.rxBuf ≠ sr.rxBuf) && decide (u.rxHead ≠ sr.rxHead)) (exec (.evSrDataAck 1) sr) = true ∧
    next (fun u => decide (u.rxTail ≠ srTwo.rxTail)) (exec .fgRead srTwo) = true ∧
    next (fun u => decide (u.txBuf ≠ i0.txBuf) && decide (u.txLen ≠ i0.txLen)) (exec .evStSlaAck i0) = true ∧
    next (fun u => decide (u.txIdx ≠ st.txIdx)) (exec .evStDataAck st) = true ∧
    next (fun u => decide (u.ackEn ≠ i0.ackEn)) (exec .evSrDataNack i0) = true ∧
    next (fun u => u.irqEn && u.busEn && decide (u.ownAddr ≠ 0)) (exec (.fgInit 1) State.reset) = true ∧
    next (fun u => u.stopPending) (exec .evBusError i0) = true ∧
    next (fun u => !u.stopPending) (exec .busStopdone waiting) = true ∧
    next (fun u => decide (u.errLatch ≠ i0.errLatch)) (exec .evBusError i0) = true ∧
    next (fun u => u.reqStatus) (exec (.evSrDataAck 0x3F) sr) = true ∧
    next (fun u => decide (u.fgState ≠ i0.fgState)) (exec .fgForceStop i0) = true := by decide

theorem witness_RequestFlagsAreSticky :
    next (fun u => u.reqStatus && u.reqCycle && u.reqHold)
      (exec (.fgInit 1) { i0 with reqStatus := true, reqCycle := true, reqHold := true }) = true := by decide

theorem witness_StopPendingUntilStopDone :
    next (fun u => u.stopPending) (exec (.fgInit 1) waiting) = false ∧
    next (fun u => u.stopPending) (exec .evSrSlaAck waiting) = true ∧
    next (fun u => u.out.stopReq) (exec .evSrStop sr) = true := by decide

theorem witness_EnablesAndConfigurationStay :
    next (fun u => u.irqEn && u.busEn) (exec .evBusError i0) = true ∧
    next (fun u => decide (u.ownAddr = 0x7F)) (exec (.fgInit 0x7F) i0) = true := by decide

theorem witness_ModelFaultRecordsMisuse :
    (srTwo.mode ≠ .ready ∧
      next (fun u => decide (u.modelFault = [.initMidTransaction])) (exec (.fgInit 1) srTwo) = true) ∧
    next (fun u => decide (u.modelFault = [])) (exec (.fgInit 1) i0) = true := by decide

end Sys2Proof.Tests
end

/-! SUPPORT. The scope family (00_scope.md): what `step` and `exec` answer outside and inside the rows of R11's table, and the
statements O8, O9 and O10. -/

namespace Sys2Proof.Config

/-- The constraints of R9, one by one. -/
theorem Params.wf_iff {p : Params} :
    p.wf = true ↔
      2 ≤ p.nRx ∧ 1 ≤ p.nTx ∧
      p.cmdStatusReport ≠ p.cmdCycleStart ∧ p.cmdStatusReport ≠ p.cmdFeedHold ∧ p.cmdStatusReport ≠ p.cmdReset ∧
      p.cmdCycleStart ≠ p.cmdFeedHold ∧ p.cmdCycleStart ≠ p.cmdReset ∧ p.cmdFeedHold ≠ p.cmdReset := by
  simp [Params.wf, and_assoc]

end Sys2Proof.Config

namespace Sys2Proof.Machine

variable {i : Instr} {s t : State}

/-! ### The step -/

/-- A configuration outside R9 is refused, whatever the agents present. -/
theorem step_of_not_wf (h : s.cfg.wf ≠ true) : step s = .refused .badConfiguration := if_neg h

/-- A step runs the instruction its first request decodes to, at the state without that request. -/
theorem step_of_decode {r : Request} {rest : List Request} (hwf : s.cfg.wf = true) (hin : s.inputs = r :: rest)
    (hdec : decode r = .ok i) : step s = exec i { s with inputs := rest } := by
  simp [step, hwf, takeRequest, hin, hdec]

/-- No instruction writes the requests still to come (log entry 5). -/
theorem exec_inputs (h : exec i s = .next t) : t.inputs = s.inputs := by
  cases exec_effect h with
  | event c code d u release kind bus irq act eq =>
    obtain ⟨-, -, -, -, -, -, -, -, -, hin, -, -⟩ := classAction_frame act
    subst eq
    exact hin
  | read instr idle ok => rcases readOp_cases ok with ⟨_, rfl⟩ | ⟨_, _, rfl⟩ <;> rfl
  | transmit length bytes instr idle ok =>
    rcases transmitOp_cases ok with ⟨_, rfl, _⟩ | ⟨_, _, _, rfl, _⟩ <;> rfl
  | _ => simp_all

/-! ### The rows of R11's table -/

/-- An instruction of the row `EV` is one handler invocation. -/
theorem exec_of_stepKind_event (h : stepKind i = .event) : ∃ c code d, ∀ s, exec i s = busEvent c code d s := by
  cases i <;> cases h <;> exact ⟨_, _, _, fun _ => rfl⟩

/-- An instruction of the foreground row is one foreground operation. -/
theorem exec_of_stepKind_foreground (h : stepKind i = .foreground) : ∃ op, ∀ s, exec i s = foregroundOp op s := by
  cases i <;> cases h <;> exact ⟨_, fun _ => rfl⟩

/-- The row `FGRESUME` has one instruction. -/
theorem eq_fgResume_of_stepKind (h : stepKind i = .resume) : i = .fgResume := by
  cases i <;> cases h
  rfl

/-- The row `STOPDONE` has one instruction. -/
theorem eq_busStopdone_of_stepKind (h : stepKind i = .stopDone) : i = .busStopdone := by
  cases i <;> cases h
  rfl

/-! ### Steps that are not enabled -/

/-- R11 with R227: no step for an event while an enable is 0. -/
theorem busEvent_of_not_enabled {c : StatusClass} {code d : Byte} (h : enabled .event s = false) :
    busEvent c code d s = .refused .eventNotEnabled := by
  have h' : (s.busEn && s.irqEn) = false := h
  simp [busEvent, enterHandler, h']

/-- R11 with R37: no foreground operation during the wait of `force_stop`. -/
theorem foregroundOp_of_not_enabled {op : State → Except Fault State} (h : enabled .foreground s = false) :
    foregroundOp op s = .refused .foregroundBusy := by
  cases hfg : s.fgState with
  | idle => simp [enabled, hfg] at h
  | waitStop => simp [foregroundOp, hfg]

/-- R197's enabling condition fails by the foreground state or by the pending stop. -/
theorem execFgResume_of_not_enabled (h : enabled .resume s = false) :
    execFgResume s = .refused .resumeNotEnabled := by
  cases hfg : s.fgState with
  | idle => simp [execFgResume, hfg]
  | waitStop =>
    have hp : s.stopPending = true := by simpa [enabled, hfg] using h
    simp [execFgResume, hfg, hp]

/-- R60's enabling condition. -/
theorem execBusStopdone_of_not_enabled (h : enabled .stopDone s = false) :
    execBusStopdone s = .refused .stopDoneNotEnabled := by
  have hp : s.stopPending = false := h
  simp [execBusStopdone, hp]

/-! ### The statements -/

/-- Settles O10, one case per row of R11's table: the row fixes the shared operation that refuses. -/
theorem disabledStepRefused : Obligations.DisabledStepRefused := by
  intro i s r hdis href
  cases hk : stepKind i with
  | event =>
    obtain ⟨c, code, d, hexec⟩ := exec_of_stepKind_event hk
    rw [hk] at hdis href
    cases href
    rw [hexec, busEvent_of_not_enabled hdis]
  | foreground =>
    obtain ⟨op, hexec⟩ := exec_of_stepKind_foreground hk
    rw [hk] at hdis href
    cases href
    rw [hexec, foregroundOp_of_not_enabled hdis]
  | resume =>
    obtain rfl := eq_fgResume_of_stepKind hk
    cases href
    exact execFgResume_of_not_enabled hdis
  | stopDone =>
    obtain rfl := eq_busStopdone_of_stepKind hk
    cases href
    exact execBusStopdone_of_not_enabled hdis
  | clear =>
    rw [hk] at href
    cases href

/-- Settles O8: `step` is `exec` of the decoded request, and `exec` keeps the remaining requests. -/
theorem stepRunsDecodedRequest : Obligations.StepRunsDecodedRequest := by
  intro s r rest i hwf hin hdec
  have hstep := step_of_decode hwf hin hdec
  refine ⟨hstep, fun t ht => ?_⟩
  rw [hstep] at ht
  exact exec_inputs ht

/-- Settles O9: each disjunct denies one constraint of R9. -/
theorem badConfigurationRefused : Obligations.BadConfigurationRefused := by
  intro s hbad
  refine step_of_not_wf fun hwf => ?_
  obtain ⟨hrx, htx, h1, h2, h3, h4, h5, h6⟩ := Config.Params.wf_iff.1 hwf
  rcases hbad with h | h | h | h | h | h | h | h
  · omega
  · omega
  · exact h1 h
  · exact h2 h
  · exact h3 h
  · exact h4 h
  · exact h5 h
  · exact h6 h

end Sys2Proof.Machine

/-! SUPPORT. The state family (10_state.md): which registers and bytes an instruction can write, that no outcome depends on
the diagnostic registers, and the statements O41, O54, O55, O57, O58, O59 and O60. -/

namespace Sys2Proof.Machine

variable {i : Instr} {s t : State}

/-! ### What the operations write -/

@[simp] theorem quiet_stopReq : Outputs.quiet.stopReq = false := rfl

/-- What a class action does to the sticky bits: it clears no request flag (R118) and no `STOP_PENDING`, and its stop request
sets `STOP_PENDING` (R32). -/
theorem classAction_sticky {c : StatusClass} {code d : Byte} (h : classAction c code d s = .ok t) :
    (s.reqStatus = true → t.reqStatus = true) ∧ (s.reqCycle = true → t.reqCycle = true) ∧
    (s.reqHold = true → t.reqHold = true) ∧ (s.stopPending = true → t.stopPending = true) ∧
    (t.out.stopReq = true → s.out.stopReq = true ∨ t.stopPending = true) := by
  cases c <;> simp only [classAction, Except.ok.injEq] at h
  case dataRx =>
    rcases aDataRx_cases h with ⟨a, _, rfl⟩ | ⟨_, _, rfl⟩ | ⟨_, _, _, rfl⟩
    · cases a <;> simp +contextual [perform]
    · simp +contextual
    · simp +contextual
  case stopRx => rcases aStopRx_cases h with ⟨_, rfl⟩ | ⟨_, _, rfl⟩ <;> simp
  case addrTx => rcases aAddrTx_cases h with ⟨_, _, rfl⟩ | ⟨_, _, rfl⟩ <;> simp +contextual
  case sendNext => rcases aSendNext_cases h with ⟨_, _, rfl⟩ | ⟨_, rfl⟩ <;> simp +contextual
  all_goals
    subst h
    simp +contextual [aStart, aAddrRx, aDataNackRx, aTxDone, aNoInfo, aBusError, aMasterDefensive, aMasterArbLost, aUnknown]

/-- What a class action stores: into the receive storage a payload byte at `RX_HEAD` (R134) or the terminator at `RX_TAIL`
(R137), if there is room; into the staged payload the default byte, if nothing is staged (R138). -/
theorem classAction_storage {c : StatusClass} {code d : Byte} (h : classAction c code d s = .ok t) :
    (t.rxBuf = s.rxBuf ∨
      (c = .dataRx ∧ intercepted s d = none ∧ rxFull s = false ∧ t.rxBuf = Memory.write s.rxHead d s.rxBuf) ∨
      (c = .stopRx ∧ rxFull s = false ∧ t.rxBuf = Memory.write s.rxTail terminator s.rxBuf)) ∧
    ((t.txBuf = s.txBuf ∧ t.txLen = s.txLen) ∨
      (c = .addrTx ∧ s.txLen = 0 ∧ t.txLen = 1 ∧ t.txBuf = Memory.write 0 defaultTxByte s.txBuf)) := by
  cases c <;> simp only [classAction, Except.ok.injEq] at h
  case dataRx =>
    rcases aDataRx_cases h with ⟨a, _, rfl⟩ | ⟨_, _, rfl⟩ | ⟨hi, hf, _, rfl⟩
    · cases a <;> exact ⟨.inl rfl, .inl ⟨rfl, rfl⟩⟩
    · exact ⟨.inl rfl, .inl ⟨rfl, rfl⟩⟩
    · exact ⟨.inr (.inl ⟨rfl, hi, hf, rfl⟩), .inl ⟨rfl, rfl⟩⟩
  case stopRx =>
    rcases aStopRx_cases h with ⟨_, rfl⟩ | ⟨hf, _, rfl⟩
    · exact ⟨.inl rfl, .inl ⟨rfl, rfl⟩⟩
    · exact ⟨.inr (.inr ⟨rfl, hf, rfl⟩), .inl ⟨rfl, rfl⟩⟩
  case addrTx =>
    rcases aAddrTx_cases h with ⟨h0, _, rfl⟩ | ⟨_, _, rfl⟩
    · exact ⟨.inl rfl, .inr ⟨rfl, h0, rfl, rfl⟩⟩
    · exact ⟨.inl rfl, .inl ⟨rfl, rfl⟩⟩
  case sendNext => rcases aSendNext_cases h with ⟨_, _, rfl⟩ | ⟨_, rfl⟩ <;> exact ⟨.inl rfl, .inl ⟨rfl, rfl⟩⟩
  all_goals
    subst h
    exact ⟨.inl rfl, .inl ⟨rfl, rfl⟩⟩

/-- `READ` writes the read index, the rewind mark and the result only (R191). -/
theorem readOp_writes (h : readOp s = .ok t) :
    ∃ tail mark result, t = { s with rxTail := tail, rxMark := mark, out := { s.out with result := result } } := by
  rcases readOp_cases h with ⟨_, rfl⟩ | ⟨_, _, rfl⟩ <;> exact ⟨_, _, _, rfl⟩

/-- `TRANSMIT` writes the staged payload, its length and the result only, and the model's counter (R193, log entry 4). -/
theorem transmitOp_writes {length : Nat} {bytes : List Byte} (h : transmitOp length bytes s = .ok t) :
    ∃ buf len draws result,
      t = { s with txBuf := buf, txLen := len, draws := draws, out := { s.out with result := result } } := by
  rcases transmitOp_cases h with ⟨_, rfl, _⟩ | ⟨_, _, _, rfl, _⟩ <;> exact ⟨_, _, _, _, rfl⟩

/-- A bus event is not an `INIT`. -/
theorem ne_fgInit_of_event (h : stepKind i = .event) (a : BitVec 7) : i ≠ .fgInit a := by
  rintro rfl
  cases h

/-- The marker of R200 by the mode. -/
theorem markMidTransaction_eq (s : State) :
    markMidTransaction s = if s.mode = .ready then s else raiseModelFault .initMidTransaction s := by
  cases h : s.mode <;> simp [markMidTransaction, h]

/-! ### The storage frame -/

/-- An instruction stores into the receive storage at most one byte, at the index `storedRx` gives (R38). -/
theorem exec_rxBuf (h : exec i s = .next t) :
    t.rxBuf = s.rxBuf ∨ ∃ a b, storedRx i s = some a ∧ t.rxBuf = Memory.write a b s.rxBuf := by
  cases exec_effect h with
  | event c code d u release kind bus irq act eq data stop =>
    subst eq
    obtain ⟨hrx, -⟩ := classAction_storage act
    rcases hrx with heq | ⟨hc, hi, hf, heq⟩ | ⟨hc, hf, heq⟩
    · exact .inl heq
    · rw [intercepted_beginStep] at hi
      rw [rxFull_beginStep] at hf
      refine .inr ⟨s.rxHead, d, ?_, heq⟩
      rcases data hc with rfl | rfl <;> simp [storedRx, hi, hf]
    · rw [rxFull_beginStep] at hf
      refine .inr ⟨s.rxTail, terminator, ?_, heq⟩
      obtain rfl := stop hc
      simp [storedRx, hf]
  | read _ _ ok => obtain ⟨_, _, _, rfl⟩ := readOp_writes ok; exact .inl rfl
  | transmit _ _ _ _ ok => obtain ⟨_, _, _, _, rfl⟩ := transmitOp_writes ok; exact .inl rfl
  | _ => simp_all

/-- No byte of the transmit storage from index `storedTx` on changes (R38). -/
theorem exec_txBuf_from (h : exec i s = .next t) {a : Nat} (ha : storedTx i s ≤ a) :
    Memory.read? t.txBuf a = Memory.read? s.txBuf a := by
  cases exec_effect h with
  | event c code d u release kind bus irq act eq _ _ addr =>
    subst eq
    obtain ⟨-, htx⟩ := classAction_storage act
    rcases htx with ⟨heq, _⟩ | ⟨hc, h0, _, heq⟩
    · exact congrArg (Memory.read? · a) heq
    · have hpos : 1 ≤ a := by rcases addr hc with rfl | rfl <;> simpa [storedTx, show s.txLen = 0 from h0] using ha
      exact (congrArg (Memory.read? · a) heq).trans (Memory.read?_write_other _ _ (by omega))
  | read _ _ ok => obtain ⟨_, _, _, rfl⟩ := readOp_writes ok; rfl
  | transmit length bytes instr _ ok =>
    subst instr
    rcases transmitOp_cases ok with ⟨_, rfl, _⟩ | ⟨hle, hm, m, rfl, _, hout, _⟩
    · rfl
    · exact hout a (by simpa [storedTx, show length ≤ s.cfg.nTx from hle, show s.mode = .slaveTransmit from hm] using ha)
  | _ => simp_all

/-- Settles O54: a byte reads differently only where `exec_rxBuf` or `exec_txBuf_from` lets the instruction store. -/
theorem unstoredBytesUnchanged : Obligations.UnstoredBytesUnchanged := by
  intro i s t h
  refine ⟨fun a ha => ?_, fun a ha => exec_txBuf_from h ha⟩
  rcases exec_rxBuf h with heq | ⟨a', b, hst, heq⟩
  · rw [heq]
  · have hne : a ≠ a' := fun e => ha (e ▸ hst)
    rw [heq, Memory.read?_write_other _ _ hne]

/-! ### The writers of each register -/

/-- A sticky bit that changes is set. -/
theorem set_of_sticky_change {x y : Bool} {P Q : Prop} (hkeep : x = true → y = true) (hset : P) (hne : y ≠ x) :
    if y = true then P else Q := by
  have hy : y = true := by
    cases x with
    | false => simpa using hne
    | true => exact hkeep rfl
  rwa [if_pos hy]

/-- Settles O55, one case per effect of an instruction. -/
theorem writersOfEachRegister : Obligations.WritersOfEachRegister := by
  intro i s t h
  cases exec_effect h with
  | event c code d u release kind bus irq act eq =>
    obtain ⟨-, htail, hmark, hirq, hbus, hown, hfg, -⟩ := classAction_frame act
    obtain ⟨hst, hcy, hho, hsp, -⟩ := classAction_sticky act
    have hstage : u.txBuf ≠ s.txBuf ∨ u.txLen ≠ s.txLen →
        u.txLen = 1 ∧ ∀ a, a ≠ 0 → Memory.read? u.txBuf a = Memory.read? s.txBuf a := by
      obtain ⟨-, htx⟩ := classAction_storage act
      rcases htx with ⟨hb, hl⟩ | ⟨-, -, hl, hb⟩
      · simp [hb, hl]
      · exact fun _ => ⟨hl, fun a ha => hb ▸ Memory.read?_write_other _ _ ha⟩
    subst eq
    exact ⟨fun _ => .inl kind, fun _ => kind, fun _ => .inl kind, fun hne => absurd hne (by simp [htail, hmark]),
      fun hne => .inr ⟨kind, hstage hne⟩, fun _ => .inl kind, fun _ => .inl kind,
      fun hne => absurd hne (by simp [hirq, hbus, hown]), set_of_sticky_change hsp (.inl kind), fun _ => .inl kind,
      set_of_sticky_change hst kind, set_of_sticky_change hcy kind, set_of_sticky_change hho kind,
      fun hne => absurd hfg hne⟩
  | read instr _ ok =>
    obtain ⟨_, _, _, rfl⟩ := readOp_writes ok
    simp [instr, stepKind]
  | transmit _ _ instr _ ok =>
    obtain ⟨_, _, _, _, rfl⟩ := transmitOp_writes ok
    simp [instr, stepKind]
  | init _ instr _ eq | resetReadCursor instr _ eq | forceStop instr _ eq | releaseBus instr _ eq
  | clearError instr _ eq | resume instr _ _ eq | stopDone instr _ eq | clearStatus instr eq | clearCycle instr eq
  | clearHold instr eq => simp [instr, eq, stepKind]

/-- Settles O57: the handler's stop sequence and `FORCE_STOP` set the bit they request, and `STOPDONE` alone clears it. -/
theorem stopPendingUntilStopDone : Obligations.StopPendingUntilStopDone := by
  intro i s t h
  cases exec_effect h with
  | event c code d u release kind bus irq act eq =>
    obtain ⟨-, -, -, hkeep, hreq⟩ := classAction_sticky act
    subst eq
    exact ⟨fun hs _ => hkeep hs, fun ht => (hreq ht).resolve_left (by simp)⟩
  | read _ _ ok =>
    obtain ⟨_, _, _, rfl⟩ := readOp_writes ok
    simp +contextual
  | transmit _ _ _ _ ok =>
    obtain ⟨_, _, _, _, rfl⟩ := transmitOp_writes ok
    simp +contextual
  | forceStop _ _ eq => simp [eq]
  | stopDone instr _ eq => simp [instr, eq]
  | _ => simp_all

/-- Settles O58: an event writes none of these registers, and of the other steps only `INIT` and `RELEASE_BUS` do. -/
theorem enablesAndConfigurationStay : Obligations.EnablesAndConfigurationStay := by
  intro i s t h
  cases exec_effect h with
  | event c code d u release kind bus irq act eq =>
    obtain ⟨hcfg, -, -, hirq, hbus, hown, -⟩ := classAction_frame act
    have hinit := ne_fgInit_of_event kind
    subst eq
    simp [hcfg, hirq, hbus, hown, hinit]
  | init a instr _ eq => simp [instr, eq]
  | releaseBus instr _ eq => simp [instr, eq]
  | read instr _ ok =>
    obtain ⟨_, _, _, rfl⟩ := readOp_writes ok
    simp [instr]
  | transmit _ _ instr _ ok =>
    obtain ⟨_, _, _, _, rfl⟩ := transmitOp_writes ok
    simp [instr]
  | _ => simp_all

/-- Settles O59: of all effects only that of `INIT` writes `MODEL_FAULT`, through the marker of R200. -/
theorem modelFaultRecordsMisuse : Obligations.ModelFaultRecordsMisuse := by
  intro i s t h
  cases exec_effect h with
  | event c code d u release kind bus irq act eq =>
    obtain ⟨-, -, -, -, -, -, -, hfault, -⟩ := classAction_frame act
    have hinit := ne_fgInit_of_event kind
    subst eq
    simp [hfault, hinit]
  | init a instr _ eq =>
    subst eq
    by_cases hm : s.mode = .ready
    · simp [markMidTransaction_eq, hm]
    · by_cases hf : ModelFault.initMidTransaction ∈ s.modelFault <;>
        simp +contextual [markMidTransaction_eq, hm, hf, instr]
  | read instr _ ok =>
    obtain ⟨_, _, _, rfl⟩ := readOp_writes ok
    simp [instr]
  | transmit _ _ instr _ ok =>
    obtain ⟨_, _, _, _, rfl⟩ := transmitOp_writes ok
    simp [instr]
  | _ => simp_all

/-! ### The diagnostic registers -/

/-- The state with the two diagnostic registers at fixed values: what `forgetDiagnostics` does to a next state. -/
def eraseDiagnostics (s : State) : State := { s with errLatch := 0, ownAddr := 0 }

@[simp] theorem eraseDiagnostics_cfg (s : State) : (eraseDiagnostics s).cfg = s.cfg := rfl
@[simp] theorem eraseDiagnostics_mode (s : State) : (eraseDiagnostics s).mode = s.mode := rfl
@[simp] theorem eraseDiagnostics_rxHead (s : State) : (eraseDiagnostics s).rxHead = s.rxHead := rfl
@[simp] theorem eraseDiagnostics_rxTail (s : State) : (eraseDiagnostics s).rxTail = s.rxTail := rfl
@[simp] theorem eraseDiagnostics_txLen (s : State) : (eraseDiagnostics s).txLen = s.txLen := rfl
@[simp] theorem eraseDiagnostics_txIdx (s : State) : (eraseDiagnostics s).txIdx = s.txIdx := rfl
@[simp] theorem eraseDiagnostics_irqEn (s : State) : (eraseDiagnostics s).irqEn = s.irqEn := rfl
@[simp] theorem eraseDiagnostics_busEn (s : State) : (eraseDiagnostics s).busEn = s.busEn := rfl
@[simp] theorem eraseDiagnostics_stopPending (s : State) : (eraseDiagnostics s).stopPending = s.stopPending := rfl
@[simp] theorem eraseDiagnostics_fgState (s : State) : (eraseDiagnostics s).fgState = s.fgState := rfl
@[simp] theorem eraseDiagnostics_modelFault (s : State) : (eraseDiagnostics s).modelFault = s.modelFault := rfl
@[simp] theorem eraseDiagnostics_draws (s : State) : (eraseDiagnostics s).draws = s.draws := rfl

/-- What an action answers, the diagnostic registers apart, does not depend on those registers. -/
def DiagnosticsBlind (f : State → Except Fault State) : Prop :=
  ∀ s, (f (eraseDiagnostics s)).map eraseDiagnostics = (f s).map eraseDiagnostics

theorem forgetDiagnostics_outcomeOf (r : Except Fault State) :
    forgetDiagnostics (outcomeOf r) = outcomeOf (r.map eraseDiagnostics) := by
  cases r <;> rfl

/-- A handler invocation is as blind as its action. -/
theorem DiagnosticsBlind.forget_enterHandler {f : State → Except Fault State} (hf : DiagnosticsBlind f) (s : State) :
    forgetDiagnostics (enterHandler f (eraseDiagnostics s)) = forgetDiagnostics (enterHandler f s) := by
  by_cases hen : (s.busEn && s.irqEn) = true
  · simp only [enterHandler, eraseDiagnostics_busEn, eraseDiagnostics_irqEn, hen, if_true, forgetDiagnostics_outcomeOf]
    exact congrArg outcomeOf (hf (beginStep s))
  · simp only [enterHandler, eraseDiagnostics_busEn, eraseDiagnostics_irqEn, hen]
    rfl

/-- A foreground operation is as blind as its action. -/
theorem DiagnosticsBlind.forget_foregroundOp {op : State → Except Fault State} (hop : DiagnosticsBlind op) (s : State) :
    forgetDiagnostics (foregroundOp op (eraseDiagnostics s)) = forgetDiagnostics (foregroundOp op s) := by
  simp only [foregroundOp, eraseDiagnostics_fgState]
  cases s.fgState with
  | idle =>
    simp only [forgetDiagnostics_outcomeOf]
    exact congrArg outcomeOf (hop (beginStep s))
  | waitStop => rfl

/-- An action that commutes with the erasure does not depend on what is erased. -/
theorem DiagnosticsBlind.of_commutes {f : State → Except Fault State}
    (hf : ∀ s, f (eraseDiagnostics s) = (f s).map eraseDiagnostics) : DiagnosticsBlind f := by
  intro s
  rw [hf s]
  cases f s <;> rfl

@[simp] theorem rxFull_eraseDiagnostics (s : State) : rxFull (eraseDiagnostics s) = rxFull s := rfl
@[simp] theorem rxEmpty_eraseDiagnostics (s : State) : rxEmpty (eraseDiagnostics s) = rxEmpty s := rfl
@[simp] theorem intercepted_eraseDiagnostics (s : State) (d : Byte) :
    intercepted (eraseDiagnostics s) d = intercepted s d := rfl

theorem memRead_eraseDiagnostics (sp : Config.Space) (k : Nat) (s : State) :
    memRead sp k (eraseDiagnostics s) = memRead sp k s := by
  cases sp <;> rfl

/-- A storage write commutes with the erasure. -/
theorem memWrite_eraseDiagnostics (sp : Config.Space) (k : Nat) (b : Byte) (s : State) :
    memWrite sp k b (eraseDiagnostics s) = (memWrite sp k b s).map eraseDiagnostics := by
  have hsize : spaceSize sp (eraseDiagnostics s) = spaceSize sp s := by cases sp <;> rfl
  by_cases hk : k < spaceSize sp s
  · simp only [memWrite, hsize, hk, if_true]
    cases sp <;> rfl
  · simp only [memWrite, hsize, hk, if_false]
    rfl

/-- The copy loop commutes with the erasure. -/
theorem copyToTx_eraseDiagnostics (bytes : List Byte) (k : Nat) (s : State) :
    copyToTx k bytes (eraseDiagnostics s) = (copyToTx k bytes s).map eraseDiagnostics := by
  induction bytes generalizing k s with
  | nil => rfl
  | cons b rest ih =>
    simp only [copyToTx, memWrite_eraseDiagnostics]
    cases memWrite .tx k b s with
    | ok t => exact ih (k + 1) t
    | error f => rfl

theorem push_eraseDiagnostics (b : Byte) (s : State) :
    push b (eraseDiagnostics s) = (push b s).map (Prod.map id eraseDiagnostics) := by
  simp only [push, rxFull_eraseDiagnostics, eraseDiagnostics_rxHead, memWrite_eraseDiagnostics]
  split
  · rfl
  · cases memWrite .rx s.rxHead b s <;> rfl

theorem pop_eraseDiagnostics (s : State) :
    pop (eraseDiagnostics s) = (pop s).map (Prod.map id eraseDiagnostics) := by
  simp only [pop, rxEmpty_eraseDiagnostics, eraseDiagnostics_rxTail, memRead_eraseDiagnostics]
  split
  · rfl
  · cases memRead .rx s.rxTail s <;> rfl

theorem terminate_eraseDiagnostics (s : State) :
    terminate (eraseDiagnostics s) = (terminate s).map eraseDiagnostics := by
  simp only [terminate, rxFull_eraseDiagnostics, eraseDiagnostics_rxTail, memWrite_eraseDiagnostics]
  split <;> rfl

theorem aDataRx_eraseDiagnostics (d : Byte) (s : State) :
    aDataRx d (eraseDiagnostics s) = (aDataRx d s).map eraseDiagnostics := by
  simp only [aDataRx, intercepted_eraseDiagnostics, push_eraseDiagnostics]
  cases intercepted s d with
  | some a => cases a <;> rfl
  | none => cases push d s <;> rfl

theorem aStopRx_eraseDiagnostics (s : State) : aStopRx (eraseDiagnostics s) = (aStopRx s).map eraseDiagnostics := by
  simp only [aStopRx, terminate_eraseDiagnostics]
  cases terminate s <;> rfl

theorem aSendNext_eraseDiagnostics (s : State) :
    aSendNext (eraseDiagnostics s) = (aSendNext s).map eraseDiagnostics := by
  simp only [aSendNext, eraseDiagnostics_txIdx, eraseDiagnostics_txLen, memRead_eraseDiagnostics]
  split
  · cases memRead .tx s.txIdx s <;> rfl
  · rfl

theorem stageDefault_eraseDiagnostics (s : State) :
    stageDefault (eraseDiagnostics s) = (stageDefault s).map eraseDiagnostics := by
  simp only [stageDefault, eraseDiagnostics_txLen, memWrite_eraseDiagnostics]
  split
  · cases memWrite .tx 0 defaultTxByte s <;> rfl
  · rfl

theorem aAddrTx_eraseDiagnostics (s : State) : aAddrTx (eraseDiagnostics s) = (aAddrTx s).map eraseDiagnostics := by
  have hstart : { setMode .slaveTransmit (eraseDiagnostics s) with txIdx := 0 } =
      eraseDiagnostics { setMode .slaveTransmit s with txIdx := 0 } := rfl
  unfold aAddrTx
  rw [hstart, stageDefault_eraseDiagnostics]
  cases stageDefault { setMode .slaveTransmit s with txIdx := 0 } with
  | ok t => exact aSendNext_eraseDiagnostics t
  | error f => rfl

/-- No class action looks at the diagnostic registers; `BusError` and `Unknown` only write `ERR_LATCH` (R224). -/
theorem diagnosticsBlind_classAction (c : StatusClass) (code d : Byte) : DiagnosticsBlind (classAction c code d) := by
  cases c
  case dataRx => exact .of_commutes (aDataRx_eraseDiagnostics d)
  case stopRx => exact .of_commutes aStopRx_eraseDiagnostics
  case addrTx => exact .of_commutes aAddrTx_eraseDiagnostics
  case sendNext => exact .of_commutes aSendNext_eraseDiagnostics
  all_goals exact fun _ => rfl

/-- The hand-back commutes with the erasure. -/
theorem handlerBody_map_eraseDiagnostics (c : StatusClass) (code d : Byte) (s : State) :
    (handlerBody c code d s).map eraseDiagnostics =
      ((classAction c code d s).map eraseDiagnostics).map (handBack c) := by
  unfold handlerBody
  cases classAction c code d s with
  | ok t => cases c <;> rfl
  | error f => rfl

theorem diagnosticsBlind_handlerBody (c : StatusClass) (code d : Byte) : DiagnosticsBlind (handlerBody c code d) := by
  intro s
  rw [handlerBody_map_eraseDiagnostics, handlerBody_map_eraseDiagnostics, diagnosticsBlind_classAction c code d s]

theorem readOp_eraseDiagnostics (s : State) : readOp (eraseDiagnostics s) = (readOp s).map eraseDiagnostics := by
  simp only [readOp, pop_eraseDiagnostics]
  cases pop s with
  | ok p =>
    obtain ⟨r, t⟩ := p
    cases r <;> rfl
  | error f => rfl

theorem transmitOp_eraseDiagnostics (length : Nat) (bytes : List Byte) (s : State) :
    transmitOp length bytes (eraseDiagnostics s) = (transmitOp length bytes s).map eraseDiagnostics := by
  simp only [transmitOp, eraseDiagnostics_cfg, eraseDiagnostics_mode, eraseDiagnostics_draws, copyToTx_eraseDiagnostics]
  split
  · rfl
  · cases s.mode with
    | ready => rfl
    | slaveReceive => rfl
    | slaveTransmit => cases copyToTx 0 (payload s.draws length bytes) s <;> rfl

theorem markMidTransaction_eraseDiagnostics (s : State) :
    markMidTransaction (eraseDiagnostics s) = eraseDiagnostics (markMidTransaction s) := by
  by_cases hm : s.mode = .ready
  · simp [markMidTransaction_eq, hm]
  · by_cases hf : ModelFault.initMidTransaction ∈ s.modelFault
    · simp [markMidTransaction_eq, hm, hf, raiseModelFault]
    · simp only [markMidTransaction_eq, eraseDiagnostics_mode, hm, if_false, raiseModelFault, eraseDiagnostics_modelFault, hf]
      rfl

/-- `INIT` writes `OWN_ADDR` and `ERR_LATCH` and reads neither. -/
theorem diagnosticsBlind_initOp (addr : BitVec 7) : DiagnosticsBlind (initOp addr) := by
  intro s
  unfold initOp
  rw [markMidTransaction_eraseDiagnostics]
  rfl

/-- Every instruction's answer, the diagnostic registers apart, is that of the erased state. -/
theorem forget_exec_eraseDiagnostics (i : Instr) (s : State) :
    forgetDiagnostics (exec i (eraseDiagnostics s)) = forgetDiagnostics (exec i s) := by
  cases i
  case fgInit a => exact (diagnosticsBlind_initOp a).forget_foregroundOp s
  case fgRead => exact (DiagnosticsBlind.of_commutes readOp_eraseDiagnostics).forget_foregroundOp s
  case fgTransmit l b => exact (DiagnosticsBlind.of_commutes (transmitOp_eraseDiagnostics l b)).forget_foregroundOp s
  case fgResetReadCursor | fgForceStop | fgReleaseBus | fgClearError =>
    exact DiagnosticsBlind.forget_foregroundOp (fun _ => rfl) s
  case fgResume =>
    simp only [exec, execFgResume, eraseDiagnostics_fgState, eraseDiagnostics_stopPending]
    cases s.fgState <;> cases s.stopPending <;> rfl
  case busStopdone =>
    cases hp : s.stopPending <;> simp only [exec, execBusStopdone, eraseDiagnostics_stopPending, hp] <;> rfl
  case collabClrStatus | collabClrCycle | collabClrHold => rfl
  all_goals exact (diagnosticsBlind_handlerBody _ _ _).forget_enterHandler s

/-- Settles O60: two states that differ in the diagnostic registers only have the same erasure. -/
theorem diagnosticsNeverGate : Obligations.DiagnosticsNeverGate := by
  intro i s e a
  calc forgetDiagnostics (exec i { s with errLatch := e, ownAddr := a })
      = forgetDiagnostics (exec i (eraseDiagnostics { s with errLatch := e, ownAddr := a })) :=
        (forget_exec_eraseDiagnostics i _).symm
    _ = forgetDiagnostics (exec i (eraseDiagnostics s)) := rfl
    _ = forgetDiagnostics (exec i s) := forget_exec_eraseDiagnostics i s

/-! ### The read ports -/

/-- Settles O41: the ports open and close with `FG_STATE`, and `MODE` is shown in the encoding of R90. -/
theorem readPortsShowRegisters : Obligations.ReadPortsShowRegisters := by
  intro s
  refine ⟨fun hidle => ⟨?_, ?_⟩, fun hwait => ⟨?_, ?_⟩, rfl⟩
  · simp [readErrPort, hidle]
  · cases hm : s.mode <;> simp [readModePort, hidle, hm, Mode.encoding]
  · simp [readErrPort, hwait]
  · simp [readModePort, hwait]

end Sys2Proof.Machine

/-! SUPPORT. The memory family (20_memory.md): what the accesses answer outside their storage, the invariant along a step, the
receive ring as a queue, and the statements O12, O13, O33, O42, O48, O50 and O53. -/

namespace Sys2Proof.Machine

variable {i : Instr} {s t : State}

/-! ### The steps that are enabled -/

/-- An enabled event answers what its action answers. -/
theorem enterHandler_of_enabled {f : State → Except Fault State} (hbus : s.busEn = true) (hirq : s.irqEn = true) :
    enterHandler f s = outcomeOf (f (beginStep s)) := by
  simp [enterHandler, hbus, hirq]

/-- An enabled foreground operation answers what its body answers. -/
theorem foregroundOp_of_idle {op : State → Except Fault State} (hidle : s.fgState = .idle) :
    foregroundOp op s = outcomeOf (op (beginStep s)) := by
  simp [foregroundOp, hidle]

/-- An enabled event whose class action completes is handed back. -/
theorem busEvent_of_ok {c : StatusClass} {code d : Byte} (hbus : s.busEn = true) (hirq : s.irqEn = true)
    (hact : classAction c code d (beginStep s) = .ok t) : busEvent c code d s = .next (handBack c t) := by
  simp [busEvent, enterHandler_of_enabled hbus hirq, handlerBody, hact, outcomeOf]

/-- An enabled event whose class action faults ends in that fault. -/
theorem busEvent_of_error {c : StatusClass} {code d : Byte} {f : Fault} (hbus : s.busEn = true) (hirq : s.irqEn = true)
    (hact : classAction c code d (beginStep s) = .error f) : busEvent c code d s = .fault f := by
  simp [busEvent, enterHandler_of_enabled hbus hirq, handlerBody, hact, outcomeOf]

/-- Settles O33: the operation is the rewind of R59, with its result delivered. -/
theorem resetReadCursorRewinds : Obligations.ResetReadCursorRewinds := by
  intro s hidle
  exact foregroundOp_of_idle (op := resetReadCursorOp) hidle

/-- Settles O42: R60's enabling condition decides between the one write and the refusal. -/
theorem stopDoneClearsPending : Obligations.StopDoneClearsPending := by
  intro s
  exact ⟨fun hpending => if_pos hpending, fun hclear => execBusStopdone_of_not_enabled hclear⟩

/-! ### Accesses outside the storage (R51) -/

theorem memRead_outside {sp : Config.Space} {k : Nat} (h : spaceSize sp s ≤ k) :
    memRead sp k s = .error (.noSuchByte sp k) := if_neg (Nat.not_lt.2 h)

theorem memWrite_outside {sp : Config.Space} {k : Nat} {b : Byte} (h : spaceSize sp s ≤ k) :
    memWrite sp k b s = .error (.noSuchByte sp k) := if_neg (Nat.not_lt.2 h)

theorem readOp_outside (hne : s.rxHead ≠ s.rxTail) (ht : s.cfg.nRx ≤ s.rxTail) :
    readOp s = .error (.noSuchByte .rx s.rxTail) := by
  simp [readOp, pop, (rxEmpty_eq_false s).2 hne, memRead_outside (sp := .rx) ht]

theorem aStopRx_outside (hroom : rxFull s = false) (ht : s.cfg.nRx ≤ s.rxTail) :
    aStopRx s = .error (.noSuchByte .rx s.rxTail) := by
  simp [aStopRx, terminate, hroom, memWrite_outside (sp := .rx) ht]

theorem aDataRx_outside {d : Byte} (hroom : rxFull s = false) (hh : s.cfg.nRx ≤ s.rxHead)
    (hdata : intercepted s d = none) : aDataRx d s = .error (.noSuchByte .rx s.rxHead) := by
  simp [aDataRx, push, hdata, hroom, memWrite_outside (sp := .rx) hh]

theorem aSendNext_outside (hleft : s.txIdx < s.txLen) (hi : s.cfg.nTx ≤ s.txIdx) :
    aSendNext s = .error (.noSuchByte .tx s.txIdx) := by
  simp [aSendNext, hleft, memRead_outside (sp := .tx) hi]

/-- With no transmit byte at all, neither the default payload can be written nor a staged byte be read. -/
theorem aAddrTx_outside (hn : s.cfg.nTx = 0) : aAddrTx s = .error (.noSuchByte .tx 0) := by
  by_cases h0 : s.txLen = 0
  · simp [aAddrTx, stageDefault, h0, memWrite, spaceSize, hn]
  · have hsend := aSendNext_outside (s := { setMode .slaveTransmit s with txIdx := 0 }) (Nat.pos_of_ne_zero h0) hn.le
    simpa [aAddrTx, stageDefault, h0] using hsend

/-- Settles O13, one access of R51 per clause. -/
theorem indexOutsideStorageFaults : Obligations.IndexOutsideStorageFaults := by
  intro s
  refine ⟨fun hidle hne ht => ?_, fun hbus hirq => ⟨fun hroom => ⟨fun ht => ?_, fun hh d hdata => ?_⟩, fun hn => ?_,
    fun hleft hi => ?_⟩⟩
  · exact (foregroundOp_of_idle hidle).trans (congrArg outcomeOf (readOp_outside (s := beginStep s) hne ht))
  · exact busEvent_of_error hbus hirq (aStopRx_outside (s := beginStep s) ((rxFull_eq_false s).2 hroom) ht)
  · have hact := aDataRx_outside (s := beginStep s) ((rxFull_eq_false s).2 hroom) hh hdata
    exact ⟨busEvent_of_error hbus hirq hact, busEvent_of_error hbus hirq hact⟩
  · have hact := aAddrTx_outside (s := beginStep s) hn
    exact ⟨busEvent_of_error hbus hirq hact, busEvent_of_error hbus hirq hact⟩
  · exact busEvent_of_error hbus hirq (aSendNext_outside (s := beginStep s) hleft hi)

/-! ### The invariant along a step

`State.Inv` reads no register but those its clauses name, so an update of other registers keeps it by definition. -/

/-- A storage list whose indices are below `n` keeps them so after a write below `n`. -/
theorem Memory.index_lt_write {m : Memory} {n k : Nat} {b : Byte} (h : ∀ c ∈ m, c.1 < n) (hk : k < n) :
    ∀ c ∈ Memory.write k b m, c.1 < n := by
  intro c hc
  rcases Memory.mem_write hc with rfl | hc
  · exact hk
  · exact h c hc

theorem State.Inv.beginStep (h : s.Inv) : (beginStep s).Inv := by
  obtain ⟨hwf, hidx, hsto, hwritten, herr, -, hfault⟩ := h
  exact ⟨hwf, hidx, hsto, hwritten, herr, rfl, hfault⟩

/-- A stored payload byte is written before `RX_HEAD` passes it, so every slot up to the new `RX_HEAD` is written. -/
theorem aDataRx_keeps_inv {d : Byte} (hinv : s.Inv) (h : aDataRx d s = .ok t) : t.Inv := by
  rcases aDataRx_cases h with ⟨a, -, rfl⟩ | ⟨-, -, rfl⟩ | ⟨-, -, -, rfl⟩
  · cases a <;> exact hinv
  · exact hinv
  · obtain ⟨hwf, ⟨hhead, htail, hmark, hlen, hidx⟩, ⟨hrx, htx, hrxIn, htxIn⟩,
      ⟨hfromTail, hfromMark, hstaged⟩, hrest⟩ := hinv
    have hn := (wf_bounds hwf).1
    exact ⟨hwf, ⟨Nat.mod_lt _ (by omega), htail, hmark, hlen, hidx⟩,
      ⟨Memory.wf_write _ _ hrx, htx, Memory.index_lt_write hrxIn hhead, htxIn⟩,
      ⟨writtenFrom_push hn hhead htail hfromTail rfl rfl rfl,
        writtenFrom_push hn hhead hmark hfromMark rfl rfl rfl, hstaged⟩,
      hrest⟩

/-- The terminator unwrites no byte and moves no index. -/
theorem aStopRx_keeps_inv (hinv : s.Inv) (h : aStopRx s = .ok t) : t.Inv := by
  rcases aStopRx_cases h with ⟨-, rfl⟩ | ⟨-, -, rfl⟩
  · exact hinv
  · obtain ⟨hwf, ⟨hhead, htail, hidx⟩, ⟨hrx, htx, hrxIn, htxIn⟩,
      ⟨hfromTail, hfromMark, hstaged⟩, hrest⟩ := hinv
    have hstays := fun k => Memory.isSome_read?_write s.rxBuf (i := s.rxTail) (j := k) terminator
    exact ⟨hwf, ⟨hhead, htail, hidx⟩, ⟨Memory.wf_write _ _ hrx, htx, Memory.index_lt_write hrxIn htail, htxIn⟩,
      ⟨writtenFrom_mono hfromTail rfl rfl hstays, writtenFrom_mono hfromMark rfl rfl hstays, hstaged⟩, hrest⟩

theorem aSendNext_keeps_inv (hinv : s.Inv) (h : aSendNext s = .ok t) : t.Inv := by
  rcases aSendNext_cases h with ⟨-, hlt, rfl⟩ | ⟨-, rfl⟩
  · obtain ⟨hwf, ⟨hhead, htail, hmark, hlen, -⟩, hrest⟩ := hinv
    exact ⟨hwf, ⟨hhead, htail, hmark, hlen, hlt⟩, hrest⟩
  · exact hinv

/-- Where nothing is staged the default byte is written before `TX_LEN` counts it (R138). -/
theorem aAddrTx_keeps_inv (hinv : s.Inv) (h : aAddrTx s = .ok t) : t.Inv := by
  obtain ⟨hwf, ⟨hhead, htail, hmark, hlen, -⟩, ⟨hrx, htx, hrxIn, htxIn⟩,
    ⟨hfromTail, hfromMark, hstaged⟩, hrest⟩ := hinv
  rcases aAddrTx_cases h with ⟨-, hn, rfl⟩ | ⟨-, hn, rfl⟩
  · have hdefault : ∀ k, k < 1 → (Memory.read? (Memory.write 0 defaultTxByte s.txBuf) k).isSome = true := by
      intro k hk
      obtain rfl : k = 0 := by omega
      simp
    exact ⟨hwf, ⟨hhead, htail, hmark, hn, hn⟩, ⟨hrx, Memory.wf_write _ _ htx, hrxIn, Memory.index_lt_write htxIn hn⟩,
      ⟨hfromTail, hfromMark, hdefault⟩, hrest⟩
  · exact ⟨hwf, ⟨hhead, htail, hmark, hlen, hn⟩, ⟨hrx, htx, hrxIn, htxIn⟩, ⟨hfromTail, hfromMark, hstaged⟩, hrest⟩

/-- The recovery of R142 and R145 latches a code that R91 lists. -/
theorem recoverFromBusError_keeps_inv {code : Byte} (hinv : s.Inv) (hcode : code ∈ legalErrLatch) :
    (recoverFromBusError code s).Inv := by
  obtain ⟨hwf, hidx, hsto, hwritten, -, hstart, hfault⟩ := hinv
  exact ⟨hwf, hidx, hsto, hwritten, hcode, hstart, hfault⟩

theorem classAction_keeps_inv {c : StatusClass} {code d : Byte} (hinv : s.Inv)
    (hlatch : code ∈ legalErrLatch ∨ (c ≠ .busError ∧ c ≠ .unknown)) (h : classAction c code d s = .ok t) : t.Inv := by
  cases c <;> simp only [classAction, Except.ok.injEq] at h
  case dataRx => exact aDataRx_keeps_inv hinv h
  case stopRx => exact aStopRx_keeps_inv hinv h
  case addrTx => exact aAddrTx_keeps_inv hinv h
  case sendNext => exact aSendNext_keeps_inv hinv h
  case busError | unknown =>
    subst h
    exact recoverFromBusError_keeps_inv hinv (by simpa using hlatch)
  all_goals
    subst h
    exact hinv

/-- The marker of R200 keeps `MODEL_FAULT` a set and writes nothing else. -/
theorem markMidTransaction_keeps_inv (hinv : s.Inv) : (markMidTransaction s).Inv := by
  rw [markMidTransaction_eq, raiseModelFault]
  split_ifs with hready hmem
  · exact hinv
  · exact hinv
  · obtain ⟨hwf, hidx, hsto, hwritten, herr, hstart, hfault⟩ := hinv
    exact ⟨hwf, hidx, hsto, hwritten, herr, hstart, hfault.cons hmem⟩

/-- `INIT` empties the ring and the staged payload, so nothing is left to read (R194). -/
theorem initRegisters_keeps_inv (addr : BitVec 7) (hinv : s.Inv) : (initRegisters addr s).Inv := by
  obtain ⟨hwf, -, hsto, -, -, hstart, hfault⟩ := hinv
  have hpos : 0 < s.cfg.nRx := Nat.lt_of_lt_of_le (by decide) (wf_bounds hwf).1
  have hnone : WrittenFrom 0 (initRegisters addr s) := by
    intro k hk
    simp [slotsFrom] at hk
  exact ⟨hwf, ⟨hpos, hpos, hpos, Nat.zero_le _, Nat.zero_le _⟩, hsto, ⟨hnone, hnone, by simp⟩,
    by simp [legalErrLatch, errNone], hstart, hfault⟩

/-- One slot on from `RX_TAIL` one slot fewer lies before `RX_HEAD`, all of them still written. -/
theorem writtenFrom_next (hn : 2 ≤ s.cfg.nRx) (hhead : s.rxHead < s.cfg.nRx) (htail : s.rxTail < s.cfg.nRx)
    (hne : s.rxHead ≠ s.rxTail) (hw : WrittenFrom s.rxTail s) : WrittenFrom ((s.rxTail + 1) % s.cfg.nRx) s := by
  intro k hk
  have hslots : slotsFrom s.rxTail s = slotsFrom ((s.rxTail + 1) % s.cfg.nRx) s + 1 := by
    simpa using congrArg List.length (unreadFrom_pop hn hhead htail hne)
  have hk' := hw (k + 1) (by omega)
  rwa [Nat.mod_add_mod, Nat.add_right_comm, Nat.add_assoc]

/-- `READ` on an empty ring moves the mark to a written stretch, and on another one shortens the unread stretch (R191). -/
theorem readOp_keeps_inv (hinv : s.Inv) (h : readOp s = .ok t) : t.Inv := by
  obtain ⟨hwf, ⟨hhead, htail, hmark, hlen, hidx⟩, hsto, ⟨hfromTail, hfromMark, hstaged⟩, hrest⟩ := hinv
  rcases readOp_cases h with ⟨-, rfl⟩ | ⟨hne, -, rfl⟩
  · exact ⟨hwf, ⟨hhead, htail, htail, hlen, hidx⟩, hsto, ⟨hfromTail, hfromTail, hstaged⟩, hrest⟩
  · have hn := (wf_bounds hwf).1
    exact ⟨hwf, ⟨hhead, Nat.mod_lt _ (by omega), hmark, hlen, hidx⟩, hsto,
      ⟨writtenFrom_next hn hhead htail hne hfromTail, hfromMark, hstaged⟩, hrest⟩

/-- An accepted `TRANSMIT` writes every byte that the new `TX_LEN` counts (R193). -/
theorem transmitOp_keeps_inv {length : Nat} {bytes : List Byte} (hinv : s.Inv)
    (h : transmitOp length bytes s = .ok t) : t.Inv := by
  rcases transmitOp_cases h with ⟨e, rfl, -⟩ | ⟨hle, -, m, rfl, hpayload, -, hcanon, hbound⟩
  · exact hinv
  · obtain ⟨hwf, ⟨hhead, htail, hmark, -, hidx⟩, ⟨hrx, htx, hrxIn, htxIn⟩, ⟨hfromTail, hfromMark, -⟩, hrest⟩ := hinv
    exact ⟨hwf, ⟨hhead, htail, hmark, hle, hidx⟩, ⟨hrx, hcanon htx, hrxIn, hbound htxIn⟩,
      ⟨hfromTail, hfromMark, fun k hk => by simp [hpayload k hk]⟩, hrest⟩

/-- What every instruction keeps, one case per effect. -/
theorem exec_keeps_inv (hinv : s.Inv) (h : exec i s = .next t) : t.Inv := by
  have hbegin := hinv.beginStep
  cases exec_effect h with
  | event c code d u release kind bus irq act eq data stop addr send latch =>
    have hact := classAction_keeps_inv hbegin latch act
    subst eq
    exact hact
  | init a instr idle eq =>
    have hregs := initRegisters_keeps_inv a (markMidTransaction_keeps_inv hbegin)
    subst eq
    exact hregs
  | read instr idle ok => exact readOp_keeps_inv hbegin ok
  | transmit length bytes instr idle ok => exact transmitOp_keeps_inv hbegin ok
  | resetReadCursor instr idle eq =>
    subst eq
    obtain ⟨hwf, ⟨hhead, -, hmark, htx⟩, hsto, ⟨-, hfromMark, hstaged⟩, hrest⟩ := hbegin
    exact ⟨hwf, ⟨hhead, hmark, hmark, htx⟩, hsto, ⟨hfromMark, hfromMark, hstaged⟩, hrest⟩
  | clearError instr idle eq =>
    subst eq
    obtain ⟨hwf, hidx, hsto, hwritten, -, hrest⟩ := hbegin
    exact ⟨hwf, hidx, hsto, hwritten, by simp [legalErrLatch, errNone], hrest⟩
  | forceStop instr idle eq | releaseBus instr idle eq | resume instr wait stopped eq | stopDone instr pending eq
  | clearStatus instr eq | clearCycle instr eq | clearHold instr eq =>
    subst eq
    exact hbegin

/-- A step is refused before it runs an instruction, or runs one at the state without its first request. -/
theorem step_cases (s : State) :
    (∃ r, step s = .refused r) ∨ ∃ i rest, step s = exec i { s with inputs := rest } := by
  by_cases hwf : s.cfg.wf = true
  · cases hin : s.inputs with
    | nil => exact .inl ⟨.noRequest, by simp [step, hwf, takeRequest, hin]⟩
    | cons r rest =>
      cases hdec : decode r with
      | ok i => exact .inr ⟨i, rest, step_of_decode hwf hin hdec⟩
      | error e => exact .inl ⟨.undecodable e, by simp [step, hwf, takeRequest, hin, hdec]⟩
  · exact .inl ⟨_, step_of_not_wf hwf⟩

/-- Settles O48: no clause of the invariant reads the requests still to come, and every instruction keeps it. -/
theorem stepKeepsInvariant : Obligations.StepKeepsInvariant := by
  intro s t hinv h
  rcases step_cases s with ⟨r, hr⟩ | ⟨i, rest, hexec⟩
  · rw [hr] at h
    cases h
  · rw [hexec] at h
    exact exec_keeps_inv (s := { s with inputs := rest }) hinv h

/-! ### Every enabled step completes -/

/-- In a state of the invariant an enabled event completes its class action. -/
theorem busEvent_completes (c : StatusClass) (code d : Byte) (hinv : s.Inv) (hbus : s.busEn = true)
    (hirq : s.irqEn = true) : ∃ t, busEvent c code d s = .next t := by
  obtain ⟨hwf, ⟨hhead, htail, -, hlen, -⟩, -⟩ := hinv
  obtain ⟨u, hact⟩ := classAction_completes (s := beginStep s) c code d hhead htail (wf_bounds hwf).2
    (fun hlt => Nat.lt_of_lt_of_le hlt hlen)
  exact ⟨_, busEvent_of_ok hbus hirq hact⟩

/-- A foreground operation completes whenever it is enabled and `RX_TAIL` is a slot. -/
theorem foreground_exec_completes (hkind : stepKind i = .foreground) (hidle : s.fgState = .idle)
    (htail : s.rxTail < s.cfg.nRx) : ∃ t, exec i s = .next t := by
  have hcompletes : ∀ {op}, (∃ t, op (beginStep s) = .ok t) → ∃ t, foregroundOp op s = .next t := by
    rintro op ⟨t, ht⟩
    exact ⟨t, by rw [foregroundOp_of_idle hidle, ht]; rfl⟩
  cases i <;> cases hkind
  case fgRead => exact hcompletes (readOp_completes (s := beginStep s) htail)
  case fgTransmit length bytes => exact hcompletes (transmitOp_completes length bytes)
  all_goals exact hcompletes ⟨_, rfl⟩

/-- Each row of R11's table completes when it is enabled. -/
theorem exec_completes (hinv : s.Inv) (hen : enabled (stepKind i) s = true) : ∃ t, exec i s = .next t := by
  cases hkind : stepKind i with
  | event =>
    obtain ⟨c, code, d, hexec⟩ := exec_of_stepKind_event hkind
    rw [hkind] at hen
    obtain ⟨hbus, hirq⟩ := (Bool.and_eq_true _ _).mp hen
    rw [hexec]
    exact busEvent_completes c code d hinv hbus hirq
  | foreground =>
    obtain ⟨-, ⟨-, htail, -⟩, -⟩ := hinv
    rw [hkind] at hen
    exact foreground_exec_completes hkind (of_decide_eq_true hen) htail
  | resume =>
    obtain rfl := eq_fgResume_of_stepKind hkind
    obtain ⟨hwait, hstopped⟩ : s.fgState = .waitStop ∧ s.stopPending = false := by simpa [enabled, hkind] using hen
    simp [exec, execFgResume, hwait, hstopped]
  | stopDone =>
    obtain rfl := eq_busStopdone_of_stepKind hkind
    exact ⟨_, if_pos hen⟩
  | clear => cases i <;> cases hkind <;> exact ⟨_, rfl⟩

/-- Only a clear has no refusal, and a clear is always enabled (R117). -/
theorem disabledRefusal_of_not_enabled {k : StepKind} (h : enabled k s = false) : ∃ r, disabledRefusal k = some r := by
  cases k
  case clear => cases h
  all_goals exact ⟨_, rfl⟩

/-- An instruction that is not enabled is refused, and one that is completes. -/
theorem exec_ne_fault (hinv : s.Inv) (f : Fault) : exec i s ≠ .fault f := by
  cases hen : enabled (stepKind i) s with
  | true =>
    obtain ⟨t, ht⟩ := exec_completes hinv hen
    simp [ht]
  | false =>
    obtain ⟨r, href⟩ := disabledRefusal_of_not_enabled hen
    simp [disabledStepRefused i s r hen href]

/-- Settles O12: no instruction faults in a state of the invariant. -/
theorem noStepFaults : Obligations.NoStepFaults := by
  intro s f hinv
  rcases step_cases s with ⟨r, hr⟩ | ⟨i, rest, hexec⟩
  · simp [hr]
  · rw [hexec]
    exact exec_ne_fault (s := { s with inputs := rest }) hinv f

/-! ### The receive ring as a queue -/

/-- A payload byte joins the queue and is acknowledged if there is room, else it is dropped and refused (R55, R134). -/
theorem aDataRx_queue {d : Byte} (hinv : s.Inv) (hdata : intercepted s d = none) (h : aDataRx d s = .ok t) :
    if (unread s).length < s.cfg.nRx - 1 then unread t = unread s ++ [d] ∧ t.ackEn = true
    else unread t = unread s ∧ t.ackEn = false := by
  obtain ⟨hwf, ⟨hhead, htail, -⟩, -⟩ := hinv
  have hn := (wf_bounds hwf).1
  have hlt := slotsFrom_lt (i := s.rxTail) hn
  have hfullIff := rxFull_iff_slots hn hhead htail
  rw [← unreadFrom_tail s, ← unreadFrom_tail t, unreadFrom_length]
  rcases aDataRx_cases h with ⟨a, hcmd, -⟩ | ⟨-, hfull, rfl⟩ | ⟨-, hroom, -, rfl⟩
  · rw [hdata] at hcmd
    cases hcmd
  · have hslots := hfullIff.1 hfull
    rw [if_neg (by omega)]
    exact ⟨rfl, rfl⟩
  · have hne : slotsFrom s.rxTail s ≠ s.cfg.nRx - 1 := fun hs => by simp [hfullIff.2 hs] at hroom
    have hlen : slotsFrom s.rxTail s < s.cfg.nRx - 1 := by omega
    rw [if_pos hlen]
    exact ⟨unreadFrom_push hn hhead htail hlen rfl rfl rfl, rfl⟩

/-- `READ` answers the head of the queue and leaves the rest, or marks an empty one (R56, R191). -/
theorem readOp_queue (hinv : s.Inv) (h : readOp s = .ok t) :
    match unread s with
    | [] => t.out.result = .read none ∧ unread t = [] ∧ t.rxMark = s.rxTail
    | b :: rest => t.out.result = .read (some b) ∧ unread t = rest ∧ t.rxMark = s.rxMark := by
  obtain ⟨hwf, ⟨hhead, htail, -⟩, -⟩ := hinv
  rcases readOp_cases h with ⟨he, rfl⟩ | ⟨hne, -, rfl⟩
  · have hempty : unread s = [] := by
      rw [← unreadFrom_tail, ← List.length_eq_zero_iff, unreadFrom_length]
      exact (head_eq_tail_iff_slots hhead htail).1 he
    rw [hempty]
    exact ⟨rfl, hempty, rfl⟩
  · rw [← unreadFrom_tail s, unreadFrom_pop (wf_bounds hwf).1 hhead htail hne]
    exact ⟨rfl, rfl, rfl⟩

/-- Settles O50: the two codes of class `DataRx` run `aDataRx`, `READ` runs `readOp`, and the hand-back touches neither the
queue nor the acknowledge level. -/
theorem ringRefinesBoundedQueue : Obligations.RingRefinesBoundedQueue := by
  intro s hinv
  have hbegin := hinv.beginStep
  have ⟨hwf, ⟨_, htail, _⟩, _⟩ := hinv
  refine ⟨?_, fun d i hi hbus hirq hdata => ?_, fun hidle => ?_⟩
  · have hlt := slotsFrom_lt (i := s.rxTail) (wf_bounds hwf).1
    rw [← unreadFrom_tail, unreadFrom_length]
    omega
  · obtain ⟨code, hexec⟩ : ∃ code, exec i s = busEvent .dataRx code d s := by
      rcases List.mem_pair.1 hi with rfl | rfl <;> exact ⟨_, rfl⟩
    obtain ⟨t, ht⟩ := busEvent_completes .dataRx code d hinv hbus hirq
    obtain ⟨-, -, u, hact, rfl⟩ := busEvent_next ht
    have hqueue := aDataRx_queue (s := beginStep s) hbegin hdata hact
    exact ⟨_, hexec.trans ht, hqueue⟩
  · obtain ⟨t, ht⟩ := foreground_exec_completes (i := .fgRead) rfl hidle htail
    have hqueue := readOp_queue (s := beginStep s) hbegin (foregroundOp_next ht).2
    exact ⟨t, ht, hqueue⟩

/-! ### Only written bytes are read (R54) -/

/-- A byte that has been written is listed with the value it reads as. -/
theorem read?_eq_byteAt {sp : Config.Space} {k : Nat} (h : (Memory.read? (spaceMem sp s) k).isSome = true) :
    Memory.read? (spaceMem sp s) k = some (byteAt sp k s) := by
  obtain ⟨b, hb⟩ := Option.isSome_iff_exists.1 h
  rw [hb, byteAt_of_listed s hb]

/-- The byte `READ` returns is the one written at `RX_TAIL`, the first unread slot. -/
theorem readOp_result_written {b : Byte} (hinv : s.Inv) (h : readOp s = .ok t) (hres : t.out.result = .read (some b)) :
    Memory.read? s.rxBuf s.rxTail = some b := by
  obtain ⟨-, ⟨hhead, htail, -⟩, -, ⟨hfromTail, -⟩, -⟩ := hinv
  rcases readOp_cases h with ⟨-, rfl⟩ | ⟨hne, -, rfl⟩
  · simp at hres
  · have hpos : 0 < slotsFrom s.rxTail s := Nat.pos_of_ne_zero fun h0 => hne ((head_eq_tail_iff_slots hhead htail).2 h0)
    have hfirst := hfromTail 0 hpos
    rw [Nat.add_zero, Nat.mod_eq_of_lt htail] at hfirst
    obtain rfl : byteAt .rx s.rxTail s = b := by simpa using hres
    exact read?_eq_byteAt (sp := .rx) hfirst

/-- A byte loaded while one is left to send is the one staged at the cursor. -/
theorem aSendNext_load_written {b : Byte} (hinv : s.Inv) (h : aSendNext s = .ok t) (hload : t.out.load = some b)
    (hleft : s.txIdx < s.txLen) : Memory.read? s.txBuf s.txIdx = some b := by
  obtain ⟨-, -, -, ⟨-, -, hstaged⟩, -⟩ := hinv
  rcases aSendNext_cases h with ⟨-, -, rfl⟩ | ⟨hle, -⟩
  · obtain rfl : byteAt .tx s.txIdx s = b := by simpa using hload
    exact read?_eq_byteAt (sp := .tx) (hstaged _ hleft)
  · omega

/-- The first byte sent is the default payload just written, or the first staged one. -/
theorem aAddrTx_load_written {b : Byte} (hinv : s.Inv) (h : aAddrTx s = .ok t) (hload : t.out.load = some b) :
    Memory.read? t.txBuf 0 = some b := by
  obtain ⟨-, -, -, ⟨-, -, hstaged⟩, -⟩ := hinv
  rcases aAddrTx_cases h with ⟨-, -, rfl⟩ | ⟨hpos, -, rfl⟩
  · obtain rfl : defaultTxByte = b := by simpa using hload
    exact Memory.read?_write_same _ _ _
  · obtain rfl : byteAt .tx 0 s = b := by simpa using hload
    exact read?_eq_byteAt (sp := .tx) (hstaged 0 hpos)

/-- Settles O53: each clause is what the rule's own body reads, and the hand-back keeps the loaded byte. -/
theorem readsOnlyWrittenBytes : Obligations.ReadsOnlyWrittenBytes := by
  intro s hinv
  have hbegin := hinv.beginStep
  refine ⟨fun t b h hres => ?_, fun t b h hload hleft => ?_, fun i hi t b h hload => ?_⟩
  · exact readOp_result_written (s := beginStep s) hbegin (foregroundOp_next h).2 hres
  · obtain ⟨-, -, u, hact, rfl⟩ := busEvent_next h
    exact aSendNext_load_written (s := beginStep s) hbegin hact hload hleft
  · obtain ⟨code, hexec⟩ : ∃ code, exec i s = busEvent .addrTx code 0 s := by
      rcases List.mem_pair.1 hi with rfl | rfl <;> exact ⟨_, rfl⟩
    obtain ⟨-, -, u, hact, rfl⟩ := busEvent_next (hexec ▸ h)
    exact aAddrTx_load_written (t := u) hbegin hact hload

end Sys2Proof.Machine

/-! SUPPORT. The encoding family (30_encoding.md): what the decoder reads of a request, what `step` answers to a request that
spells nothing, what `TRANSMIT` answers in each case of R193, and the statements O1, O2, O5, O6, O7 and O35. -/

namespace Sys2Proof

/-! ### The status byte (R81, R86) -/

/-- The code is the field the decoder reads, in bits 7..3 over three zero bits (R81). -/
theorem statusCode_toNat (S : Byte) : (statusCode S).toNat = 8 * statusField S := by
  have hmask : (statusCode S).toNat = S.toNat &&& 248 := BitVec.toNat_and ..
  have hlow : (S.toNat &&& 248) % 8 = 0 := by simpa using Nat.and_mod_two_pow (a := S.toNat) (b := 248) (n := 3)
  have hhigh : (S.toNat &&& 248) / 8 = S.toNat / 8 &&& 31 := Nat.and_div_two_pow (n := 3)
  have hfits : S.toNat / 8 &&& 31 = S.toNat / 8 % 32 := Nat.and_two_pow_sub_one_eq_mod _ 5
  have hbyte := S.isLt
  unfold statusField
  omega

/-- A status byte has a given code exactly when its field is the code's. -/
theorem statusCode_eq_iff {S c : Byte} {n : Nat} (hc : c.toNat = 8 * n) : statusCode S = c ↔ statusField S = n := by
  rw [← BitVec.toNat_inj, statusCode_toNat]
  omega

theorem decodeStatus_congr_field {S T : Byte} (D : Byte) (h : statusField S = statusField T) :
    decodeStatus S D = decodeStatus T D := by
  unfold decodeStatus
  rw [h]

/-- Field 16 is the code 0x80 (R161). -/
theorem decodeStatus_of_field_16 {S : Byte} (D : Byte) (h : statusField S = 16) : decodeStatus S D = .evSrDataAck D := by
  simp [decodeStatus, h]

/-- Field 18 is the code 0x90 (R163). -/
theorem decodeStatus_of_field_18 {S : Byte} (D : Byte) (h : statusField S = 18) :
    decodeStatus S D = .evSrGcallDataAck D := by
  simp [decodeStatus, h]

/-- Every other row of R83 drops `D` (R86). -/
theorem decodeStatus_ignores_data {S : Byte} (D E : Byte) (h16 : statusField S ≠ 16) (h18 : statusField S ≠ 18) :
    decodeStatus S D = decodeStatus S E := by
  unfold decodeStatus
  split
  case h_17 hfield => exact absurd hfield h16
  case h_19 hfield => exact absurd hfield h18
  all_goals rfl

/-! ### The reserved codes (R94, R95) -/

theorem decodeFg_of_reserved {op : BitVec 4} (addr : BitVec 7) (length : Nat) (bytes : List Byte) (h : 7 ≤ op.toNat) :
    decodeFg op addr length bytes = .error (.reservedOp op) := by
  unfold decodeFg
  split
  case h_8 => rfl
  all_goals omega

end Sys2Proof

namespace Sys2Proof.Machine

variable {s : State}

/-- A request that spells no step is refused by what the decoder says of it. -/
theorem step_of_decode_error {r : Request} {rest : List Request} {e : Reject} (hwf : s.cfg.wf = true)
    (hin : s.inputs = r :: rest) (hdec : decode r = .error e) : step s = .refused (.undecodable e) := by
  simp [step, hwf, takeRequest, hin, hdec]

/-! ### The SLA byte (R88) -/

theorem slaByte_toNat (addr : BitVec 7) (dir : BitVec 1) :
    (slaByte addr dir).toNat = 2 * addr.toNat + dir.toNat := by
  unfold slaByte
  rw [BitVec.toNat_append, ← Nat.shiftLeft_add_eq_or_of_lt dir.isLt, Nat.shiftLeft_eq]
  omega

/-! ### `TRANSMIT` case by case (R193) -/

/-- R222: the length is checked first. -/
theorem transmitOp_of_too_large {length : Nat} (bytes : List Byte) (h : s.cfg.nTx < length) :
    transmitOp length bytes s = .ok (giveResult (.transmitErr .tooLarge) s) := if_pos h

/-- R223: a length that fits is refused outside `SlaveTransmit`. -/
theorem transmitOp_of_wrong_mode {length : Nat} (bytes : List Byte) (hle : length ≤ s.cfg.nTx)
    (hmode : s.mode ≠ .slaveTransmit) :
    transmitOp length bytes s = .ok (giveResult (.transmitErr .wrongMode) s) := by
  unfold transmitOp
  rw [if_neg (by omega)]
  cases hm : s.mode with
  | ready => rfl
  | slaveReceive => rfl
  | slaveTransmit => exact absurd hm hmode

/-- An accepted `TRANSMIT` stages the payload's bytes at the indices below `length` and no others. -/
theorem transmitOp_of_accepted {length : Nat} (bytes : List Byte) (hle : length ≤ s.cfg.nTx)
    (hmode : s.mode = .slaveTransmit) :
    ∃ m, transmitOp length bytes s = .ok { s with
        txBuf := m
        txLen := length
        draws := s.draws + payloadDraws length bytes
        out := { s.out with result := .transmitOk } } ∧
      (∀ k, k < length → Memory.read? m k = some (payloadByte s.draws bytes k)) ∧
      (∀ k, length ≤ k → Memory.read? m k = Memory.read? s.txBuf k) := by
  obtain ⟨t, ht⟩ := transmitOp_completes (s := s) length bytes
  rcases transmitOp_cases ht with ⟨-, -, hlt | hne⟩ | ⟨-, -, m, rfl, hin, hout, -⟩
  · omega
  · exact absurd hmode hne
  · exact ⟨m, ht, hin, hout⟩

theorem exec_fgTransmit_of_idle (length : Nat) (bytes : List Byte) (hidle : s.fgState = .idle) :
    exec (.fgTransmit length bytes) s = outcomeOf (transmitOp length bytes (beginStep s)) :=
  foregroundOp_of_idle hidle

/-- The form `len=L` takes one index of free values (log entry 4). -/
theorem payloadDraws_unlisted {length : Nat} (h : 1 ≤ length) : payloadDraws length [] = 1 := if_pos h

/-! ### The statements -/

/-- Settles O1: equal codes have equal fields, and the decoder reads the field only. -/
theorem decodeIgnoresLowStatusBits : Obligations.DecodeIgnoresLowStatusBits := by
  refine ⟨fun S D => ⟨_, rfl⟩, fun S T D hcode => ?_⟩
  have hfield : 8 * statusField S = 8 * statusField T := by
    rw [← statusCode_toNat, ← statusCode_toNat]
    exact congrArg BitVec.toNat hcode
  exact congrArg Except.ok (decodeStatus_congr_field D (by omega))

/-- Settles O2: the codes 0x80 and 0x90 are the fields 16 and 18, the two rows that hold `D`. -/
theorem decodeIgnoresUnreadData : Obligations.DecodeIgnoresUnreadData := by
  have h80 (S : Byte) : S &&& 0xF8 = 0x80 ↔ statusField S = 16 := statusCode_eq_iff rfl
  have h90 (S : Byte) : S &&& 0xF8 = 0x90 ↔ statusField S = 18 := statusCode_eq_iff rfl
  refine ⟨fun S D E hn80 hn90 => ?_, fun S D h => ?_, fun S D h => ?_⟩
  · exact congrArg Except.ok (decodeStatus_ignores_data D E (mt (h80 S).2 hn80) (mt (h90 S).2 hn90))
  · exact congrArg Except.ok (decodeStatus_of_field_16 D ((h80 S).1 h))
  · exact congrArg Except.ok (decodeStatus_of_field_18 D ((h90 S).1 h))

/-- Settles O5: `step` passes on the decoder's rejection of the reserved code. -/
theorem reservedRequestsRefused : Obligations.ReservedRequestsRefused := by
  refine ⟨fun op addr length bytes rest s hop hwf hin => ?_, fun rest s hwf hin => ?_⟩
  · exact step_of_decode_error hwf hin (decodeFg_of_reserved addr length bytes hop)
  · exact step_of_decode_error hwf hin rfl

/-- Settles O6: each word is evaluated by the decoder. -/
theorem decodeSampleWords : Obligations.DecodeSampleWords :=
  ⟨rfl, rfl, rfl, rfl, rfl, rfl, rfl⟩

/-- Settles O7: the fields are the two halves of the concatenation. -/
theorem slaByteFields : Obligations.SlaByteFields := fun addr dir =>
  ⟨BitVec.extractLsb'_append_eq_left, BitVec.extractLsb'_append_eq_right, slaByte_toNat addr dir⟩

/-- Settles O35: R193's cases with no listed byte, so that every byte of the payload is a free value. -/
theorem transmitOfUnspecifiedBytes : Obligations.TransmitOfUnspecifiedBytes := by
  intro length s hidle
  rw [exec_fgTransmit_of_idle length [] hidle]
  refine ⟨fun hlt => ?_, fun hle hmode => ?_, fun hpos hle hmode => ?_⟩
  · rw [transmitOp_of_too_large (s := beginStep s) [] hlt]
    rfl
  · rw [transmitOp_of_wrong_mode (s := beginStep s) [] hle hmode]
    rfl
  · obtain ⟨m, hok, hstaged, hkept⟩ := transmitOp_of_accepted (s := beginStep s) [] hle hmode
    rw [payloadDraws_unlisted hpos] at hok
    exact ⟨m, congrArg outcomeOf hok, hstaged, hkept⟩

end Sys2Proof.Machine

/-! SUPPORT. The command interceptor family (40_command_interceptor.md): the comparator as the table of command bytes, what a
data byte does when it is a command and when it is payload, and the statements O17, O18, O19, O43 and O56. -/

namespace Sys2Proof.Machine

variable {i : Instr} {s t : State} {d : Byte}

/-! ### The comparator (R110) -/

/-- The command byte that selects an action (R87): the table `intercept` looks its byte up in. -/
def commandByte (p : Config.Params) : ControlAction → Byte
  | .requestStatusReport => p.cmdStatusReport
  | .requestCycleStart => p.cmdCycleStart
  | .requestFeedHold => p.cmdFeedHold
  | .requestReset => p.cmdReset

/-- With distinct command bytes (R9) the order of the comparator's tests does not matter. -/
theorem intercept_commandByte {p : Config.Params} (hwf : p.wf = true) (a : ControlAction) :
    intercept p (commandByte p a) = some a := by
  obtain ⟨-, -, hsc, hsh, hsr, hch, hcr, hhr⟩ := Config.Params.wf_iff.1 hwf
  cases a with
  | requestStatusReport => simp [intercept, commandByte]
  | requestCycleStart => simp [intercept, commandByte, hsc.symm]
  | requestFeedHold => simp [intercept, commandByte, hsh.symm, hch.symm]
  | requestReset => simp [intercept, commandByte, hsr.symm, hcr.symm, hhr.symm]

/-- An action is answered to its own command byte only; this needs no constraint of R9. -/
theorem eq_commandByte_of_intercept {p : Config.Params} {b : Byte} {a : ControlAction} (h : intercept p b = some a) :
    b = commandByte p a := by
  unfold intercept at h
  split_ifs at h with hs hc hh hr
  all_goals
    cases h
    assumption

theorem intercept_eq_some_iff {p : Config.Params} (hwf : p.wf = true) (b : Byte) (a : ControlAction) :
    intercept p b = some a ↔ b = commandByte p a :=
  ⟨eq_commandByte_of_intercept, fun h => h ▸ intercept_commandByte hwf a⟩

/-- R116: no action for every byte that fails the four tests. -/
theorem intercept_eq_none_iff {p : Config.Params} {b : Byte} :
    intercept p b = none ↔
      b ≠ p.cmdStatusReport ∧ b ≠ p.cmdCycleStart ∧ b ≠ p.cmdFeedHold ∧ b ≠ p.cmdReset := by
  simp [intercept, ite_eq_iff]

/-! ### A data byte (R111, R134) -/

/-- The two codes that read `D` run `A_DataRx` on it (R161, R163). -/
theorem exec_of_mem_dataCodes (hi : i ∈ [Instr.evSrDataAck d, .evSrGcallDataAck d]) :
    ∃ code, ∀ s, exec i s = busEvent .dataRx code d s := by
  rcases List.mem_pair.1 hi with rfl | rfl <;> exact ⟨_, fun _ => rfl⟩

/-- In `SlaveReceive` a command byte selects its action. -/
theorem intercepted_of_command {a : ControlAction} (hwf : s.cfg.wf = true) (hmode : s.mode = .slaveReceive)
    (hd : d = commandByte s.cfg a) : intercepted s d = some a := by
  simp [intercepted, hmode, hd, intercept_commandByte hwf]

theorem aDataRx_of_intercepted {a : ControlAction} (h : intercepted s d = some a) :
    aDataRx d s = .ok (ackIfRoom (perform a s)) := by
  simp [aDataRx, h]

/-- A payload byte with room in the ring is stored at `RX_HEAD` and acknowledged. -/
theorem aDataRx_of_room (hdata : intercepted s d = none) (hroom : rxFull s = false) (hhead : s.rxHead < s.cfg.nRx) :
    aDataRx d s = .ok { s with
      rxBuf := Memory.write s.rxHead d s.rxBuf
      rxHead := nextIndex s.cfg.nRx s.rxHead
      ackEn := true } := by
  simp [aDataRx, hdata, push, hroom, memWrite, spaceSize, hhead, setSpaceMem, spaceMem, setAck]

/-- The step of a data code in `SlaveReceive` whose byte is the command byte of `a` (R119): the action, the acknowledge
decision and the hand-back. -/
theorem exec_dataCode_of_command (hi : i ∈ [Instr.evSrDataAck d, .evSrGcallDataAck d]) (hbus : s.busEn = true)
    (hirq : s.irqEn = true) (hwf : s.cfg.wf = true) (hmode : s.mode = .slaveReceive) {a : ControlAction}
    (hd : d = commandByte s.cfg a) : exec i s = .next (emitRelease (ackIfRoom (perform a (beginStep s)))) := by
  obtain ⟨code, hexec⟩ := exec_of_mem_dataCodes hi
  have hact := aDataRx_of_intercepted (intercepted_of_command (s := beginStep s) hwf hmode hd)
  exact (hexec s).trans (busEvent_of_ok (c := .dataRx) hbus hirq hact)

/-- The step of a data code whose byte is payload, with room in the ring. -/
theorem exec_dataCode_of_room (hi : i ∈ [Instr.evSrDataAck d, .evSrGcallDataAck d]) (hbus : s.busEn = true)
    (hirq : s.irqEn = true) (hdata : intercepted s d = none) (hroom : rxFull s = false) (hhead : s.rxHead < s.cfg.nRx) :
    exec i s = .next { s with
      rxBuf := Memory.write s.rxHead d s.rxBuf
      rxHead := nextIndex s.cfg.nRx s.rxHead
      ackEn := true
      out := { Outputs.quiet with release := true } } := by
  obtain ⟨code, hexec⟩ := exec_of_mem_dataCodes hi
  have hact := aDataRx_of_room (s := beginStep s) hdata hroom hhead
  exact (hexec s).trans (busEvent_of_ok (c := .dataRx) hbus hirq hact)

/-! ### The request flags (R118) -/

/-- A bit whose change to 0 has one cause stays 1 without that cause. -/
theorem stays_set_of_cleared_only_by {x y : Bool} {P Q : Prop} (hwriter : y ≠ x → if y = true then P else Q)
    (hset : x = true) (hcause : ¬Q) : y = true := by
  subst hset
  by_contra hy
  exact hcause (by simpa [hy] using hwriter hy)

/-! ### The statements -/

/-- Settles O18: the comparator is the table `commandByte`, read backwards. -/
theorem interceptMatchesReservedBytes : Obligations.InterceptMatchesReservedBytes := by
  intro p b hwf
  have hsome := intercept_eq_some_iff hwf b
  exact ⟨hsome .requestStatusReport, hsome .requestCycleStart, hsome .requestFeedHold, hsome .requestReset,
    intercept_eq_none_iff⟩

/-- Settles O17: `exec_dataCode_of_command` at each of the four actions. -/
theorem commandBytePerformed : Obligations.CommandBytePerformed := by
  intro d i hi s hbus hirq hwf hmode
  have hcommand (a : ControlAction) (hd : d = commandByte s.cfg a) :=
    exec_dataCode_of_command hi hbus hirq hwf hmode hd
  exact ⟨hcommand .requestStatusReport, hcommand .requestCycleStart, hcommand .requestFeedHold,
    hcommand .requestReset⟩

/-- Settles O19: outside `SlaveReceive` the gate is shut, so that the byte is pushed whatever its value. -/
theorem commandValueOutsideReceiveIsPayload : Obligations.CommandValueOutsideReceiveIsPayload := by
  intro d i hi s hbus hirq hmode hhead hroom
  have hexec := exec_dataCode_of_room hi hbus hirq (intercepted_of_mode_ne hmode) hroom hhead
  exact ⟨_, hexec, Memory.read?_write_same _ _ _, fun a ha => Memory.read?_write_other _ _ ha, rfl, rfl, rfl, rfl⟩

/-- Settles O43: each clear is enabled in every state and is the one write of R117. -/
theorem clearWritesOneFlag : Obligations.ClearWritesOneFlag := fun _ => ⟨rfl, rfl, rfl⟩

/-- Settles O56: of the writers of a request flag (O55) only its clear writes 0. -/
theorem requestFlagsAreSticky : Obligations.RequestFlagsAreSticky := by
  intro i s t h
  obtain ⟨-, -, -, -, -, -, -, -, -, -, hstatus, hcycle, hhold, -⟩ := writersOfEachRegister i s t h
  exact ⟨stays_set_of_cleared_only_by hstatus, stays_set_of_cleared_only_by hcycle, stays_set_of_cleared_only_by hhold⟩

end Sys2Proof.Machine

/-! SUPPORT. The bus state machine family (41_bus_state_machine.md): the dispatch on the status code, what each class action
answers where it completes, and the statements O14, O15, O16 and O20 to O31. -/

namespace Sys2Proof.Machine

variable {i : Instr} {s t : State} {c : StatusClass} {code d : Byte}

/-! ### The dispatch (R130) -/

/-- The code of a status byte, from the field the decoder reads. -/
theorem statusCode_eq_ofNat (S : Byte) : statusCode S = BitVec.ofNat 8 (8 * statusField S) := by
  rw [← statusCode_toNat, BitVec.ofNat_toNat, BitVec.setWidth_eq]

/-- Row by row of R83: the instruction an event decodes to runs its code's class. A class that reads no `D` drops it. -/
theorem exec_decodeStatus (S D : Byte) (s : State) :
    exec (decodeStatus S D) s = busEvent (statusMap (statusCode S)) (statusCode S) D s := by
  have hbyte : statusField S < 32 := by
    have := S.isLt
    unfold statusField
    omega
  rw [statusCode_eq_ofNat]
  unfold decodeStatus
  generalize statusField S = field at hbyte
  interval_cases field <;> rfl

/-- What an event request decodes to runs its code's class. -/
theorem exec_of_decode_event {S D : Byte} (hdec : decode (.event S D) = .ok i) (s : State) :
    exec i s = busEvent (statusMap (statusCode S)) (statusCode S) D s := by
  cases hdec
  exact exec_decodeStatus S D s

/-- An enabled event of a class whose action cannot fault is that action, handed back. -/
theorem busEvent_of_total {f : State → State} (hact : ∀ u, classAction c code d u = .ok (f u)) (hbus : s.busEn = true)
    (hirq : s.irqEn = true) : busEvent c code d s = .next (handBack c (f (beginStep s))) :=
  busEvent_of_ok hbus hirq (hact _)

/-! ### The class actions where they complete -/

@[simp] theorem perform_mode (a : ControlAction) (s : State) : (perform a s).mode = s.mode := by cases a <;> rfl
@[simp] theorem perform_stopReq (a : ControlAction) (s : State) : (perform a s).out.stopReq = s.out.stopReq := by
  cases a <;> rfl

/-- In `SlaveReceive` the gate of R111 is open. -/
theorem intercepted_of_receive (hmode : s.mode = .slaveReceive) : intercepted s d = intercept s.cfg d := by
  simp [intercepted, hmode]

/-- A byte is payload if it is no command or arrives outside `SlaveReceive` (R111, R116). -/
theorem intercepted_eq_none (h : s.mode = .slaveReceive → intercept s.cfg d = none) : intercepted s d = none := by
  by_cases hmode : s.mode = .slaveReceive
  · rw [intercepted_of_receive hmode, h hmode]
  · exact intercepted_of_mode_ne hmode

/-- A payload byte over a full ring is dropped and refused. -/
theorem aDataRx_of_full (hdata : intercepted s d = none) (hfull : rxFull s = true) :
    aDataRx d s = .ok (setAck false s) := by
  simp [aDataRx, hdata, push, hfull]

/-- R137 over a full ring: no terminator. -/
theorem aStopRx_of_full (hfull : rxFull s = true) : aStopRx s = .ok (setMode .ready (stopSeq s)) := by
  simp [aStopRx, terminate, hfull]

/-- R137 with room in the ring: the terminator at `RX_TAIL`. -/
theorem aStopRx_of_room (hroom : rxFull s = false) (htail : s.rxTail < s.cfg.nRx) :
    aStopRx s = .ok (setMode .ready (stopSeq { s with rxBuf := Memory.write s.rxTail terminator s.rxBuf })) := by
  obtain ⟨u, hu⟩ := terminate_completes htail
  rcases terminate_cases hu with ⟨hfull, -⟩ | ⟨-, -, rfl⟩
  · simp [hroom] at hfull
  · simp [aStopRx, hu]

/-- R139 with a byte left to send. -/
theorem aSendNext_of_left (hleft : s.txIdx < s.txLen) (hidx : s.txIdx < s.cfg.nTx) :
    aSendNext s = .ok { s with
      txIdx := s.txIdx + 1
      ackEn := decide (s.txIdx + 1 < s.txLen)
      out := { s.out with load := some (byteAt .tx s.txIdx s) } } := by
  obtain ⟨u, hu⟩ := aSendNext_completes (s := s) fun _ => hidx
  rcases aSendNext_cases hu with ⟨-, -, rfl⟩ | ⟨hle, -⟩
  · exact hu
  · omega

/-- R139 past the staged length. -/
theorem aSendNext_of_none_left (hle : s.txLen ≤ s.txIdx) :
    aSendNext s = .ok { s with ackEn := false, out := { s.out with load := some txFill } } :=
  if_neg (Nat.not_lt.2 hle)

/-- R138 with nothing staged: the default payload is written, counted and sent. -/
theorem aAddrTx_of_none_staged (hstaged : s.txLen = 0) (hn : 0 < s.cfg.nTx) :
    aAddrTx s = .ok { s with
      mode := .slaveTransmit
      txBuf := Memory.write 0 defaultTxByte s.txBuf
      txLen := 1
      txIdx := 1
      ackEn := false
      out := { s.out with load := some defaultTxByte } } := by
  obtain ⟨u, hu⟩ := aAddrTx_completes hn
  rcases aAddrTx_cases hu with ⟨-, -, rfl⟩ | ⟨hpos, -, -⟩
  · exact hu
  · omega

/-- R138 with a staged payload: its first byte is sent. -/
theorem aAddrTx_of_staged (hstaged : 1 ≤ s.txLen) (hn : 0 < s.cfg.nTx) :
    aAddrTx s = .ok { s with
      mode := .slaveTransmit
      txIdx := 1
      ackEn := decide (1 < s.txLen)
      out := { s.out with load := some (byteAt .tx 0 s) } } := by
  obtain ⟨u, hu⟩ := aAddrTx_completes hn
  rcases aAddrTx_cases hu with ⟨hzero, -, -⟩ | ⟨-, -, rfl⟩
  · omega
  · exact hu

/-! ### The statements about every class -/

/-- Settles O30: the dispatch is `exec_of_decode_event`; the action then completes or faults. -/
theorem eventRunsItsClassAction : Obligations.EventRunsItsClassAction := by
  intro S D i s hdec hbus hirq
  rw [exec_of_decode_event hdec, show S &&& 0xF8 = statusCode S from rfl,
    show { s with out := Outputs.quiet } = beginStep s from rfl]
  cases hact : classAction (statusMap (statusCode S)) (statusCode S) D (beginStep s) with
  | ok t =>
    rw [busEvent_of_ok hbus hirq hact, handBack_eq]
    exact apply_ite Host.Outcome.next _ _ _
  | error f => exact busEvent_of_error hbus hirq hact

/-- Settles O31, one case per class: the columns of R174 are read off what the class action answers. -/
theorem modeAfterEachClass : Obligations.ModeAfterEachClass := by
  intro S D i s t hdec h
  rw [exec_of_decode_event hdec] at h
  obtain ⟨-, -, u, hact, rfl⟩ := busEvent_next h
  rw [show S &&& 0xF8 = statusCode S from rfl]
  generalize statusMap (statusCode S) = c at hact ⊢
  cases c <;> simp only [classAction, Except.ok.injEq] at hact
  case dataRx =>
    rcases aDataRx_cases hact with ⟨a, -, rfl⟩ | ⟨-, hfull, rfl⟩ | ⟨-, hroom, -, rfl⟩
    · simp [handBack]
    · rw [rxFull_beginStep] at hfull
      exact ⟨rfl, rfl, rfl, by rw [hfull]; rfl⟩
    · rw [rxFull_beginStep] at hroom
      exact ⟨rfl, rfl, rfl, by rw [hroom]; rfl⟩
  case stopRx => rcases aStopRx_cases hact with ⟨-, rfl⟩ | ⟨-, -, rfl⟩ <;> exact ⟨rfl, rfl, rfl, rfl⟩
  case addrTx => rcases aAddrTx_cases hact with ⟨-, -, rfl⟩ | ⟨-, -, rfl⟩ <;> exact ⟨rfl, rfl, rfl, rfl⟩
  case sendNext =>
    rcases aSendNext_cases hact with ⟨-, -, rfl⟩ | ⟨hle, rfl⟩
    · exact ⟨rfl, rfl, rfl, rfl⟩
    · exact ⟨rfl, (decide_eq_false (Nat.not_lt.2 hle)).symm, rfl, rfl⟩
  all_goals
    subst hact
    exact ⟨rfl, rfl, rfl, rfl⟩

/-! ### The statements about one class -/

/-- Settles O16: `A_DataRx` by the gate of R111 and the room in the ring. -/
theorem dataByteReceived : Obligations.DataByteReceived := by
  intro d i hi s hbus hirq
  obtain ⟨code, hexec⟩ := exec_of_mem_dataCodes hi
  refine ⟨fun a hmode hcmd => ?_, fun hgate => ⟨fun hfull => ?_, fun hroom hhead => ?_⟩⟩
  · have hact := aDataRx_of_intercepted (s := beginStep s) ((intercepted_of_receive hmode).trans hcmd)
    have hstep := (hexec s).trans (busEvent_of_ok (c := .dataRx) hbus hirq hact)
    cases a <;> exact hstep
  · have hact := aDataRx_of_full (s := beginStep s) (intercepted_eq_none hgate) ((rxFull_eq_true s).2 hfull)
    exact (hexec s).trans (busEvent_of_ok (c := .dataRx) hbus hirq hact)
  · exact exec_dataCode_of_room hi hbus hirq (intercepted_eq_none hgate) ((rxFull_eq_false s).2 hroom) hhead

/-- Settles O21: `A_StopRx` by the room in the ring. -/
theorem stopWhileReceiving : Obligations.StopWhileReceiving := by
  intro s hbus hirq
  refine ⟨fun hfull => ?_, fun hroom htail => ?_⟩
  · have hact := aStopRx_of_full (s := beginStep s) ((rxFull_eq_true s).2 hfull)
    exact busEvent_of_ok (c := .stopRx) hbus hirq hact
  · have hact := aStopRx_of_room (s := beginStep s) ((rxFull_eq_false s).2 hroom) htail
    exact busEvent_of_ok (c := .stopRx) hbus hirq hact

/-- Settles O22: `A_AddrTx` by whether a payload is staged. -/
theorem addressedAsTransmitter : Obligations.AddressedAsTransmitter := by
  intro i hi s hbus hirq hn
  obtain ⟨code, hexec⟩ : ∃ code, exec i s = busEvent .addrTx code 0 s := by
    rcases List.mem_pair.1 hi with rfl | rfl <;> exact ⟨_, rfl⟩
  refine ⟨fun hstaged => ?_, fun hstaged => ?_⟩
  · have hact := aAddrTx_of_none_staged (s := beginStep s) hstaged hn
    exact hexec.trans (busEvent_of_ok (c := .addrTx) hbus hirq hact)
  · have hact := aAddrTx_of_staged (s := beginStep s) hstaged hn
    exact hexec.trans (busEvent_of_ok (c := .addrTx) hbus hirq hact)

/-- Settles O23: `A_SendNext` by whether a staged byte is left. -/
theorem transmittedByteAcknowledged : Obligations.TransmittedByteAcknowledged := by
  intro s hbus hirq
  refine ⟨fun hleft hidx => ?_, fun hle => ?_⟩
  · have hact := aSendNext_of_left (s := beginStep s) hleft hidx
    exact busEvent_of_ok (c := .sendNext) hbus hirq hact
  · have hact := aSendNext_of_none_left (s := beginStep s) hle
    exact busEvent_of_ok (c := .sendNext) hbus hirq hact

/-- Settles O14: both codes are of class `Start`. -/
theorem startCodesLoadPendingAddress : Obligations.StartCodesLoadPendingAddress := by
  intro i hi s hbus hirq
  -- with the registers written out, the record updates compare field by field
  cases s
  fin_cases hi <;> exact busEvent_of_total (c := .start) (f := aStart) (fun _ => rfl) hbus hirq

/-- Settles O15: the four codes are of class `AddrRx`. -/
theorem addressedAsReceiver : Obligations.AddressedAsReceiver := by
  intro i hi s hbus hirq
  fin_cases hi <;> exact busEvent_of_total (c := .addrRx) (f := aAddrRx) (fun _ => rfl) hbus hirq

/-- Settles O20: both codes are of class `DataNackRx`. -/
theorem refusedDataByteDiscarded : Obligations.RefusedDataByteDiscarded := by
  intro i hi s hbus hirq
  fin_cases hi <;> exact busEvent_of_total (c := .dataNackRx) (f := aDataNackRx) (fun _ => rfl) hbus hirq

/-- Settles O24: both codes are of class `TxDone`. -/
theorem transmitEnds : Obligations.TransmitEnds := by
  intro i hi s hbus hirq
  fin_cases hi <;> exact busEvent_of_total (c := .txDone) (f := aTxDone) (fun _ => rfl) hbus hirq

/-- Settles O25: the action is empty and the class is the one that is not handed back. -/
theorem noInfoChangesNothing : Obligations.NoInfoChangesNothing := fun _ =>
  busEvent_of_total (c := .noInfo) (f := aNoInfo) fun _ => rfl

/-- Settles O26: the recovery of R142 with the code 0x00. -/
theorem busErrorRecovers : Obligations.BusErrorRecovers := fun _ =>
  busEvent_of_total (c := .busError) (f := recoverFromBusError 0x00) fun _ => rfl

/-- Settles O27: each unknown code takes the same recovery with itself as the code. -/
theorem unknownCodeRecovers : Obligations.UnknownCodeRecovers := by
  intro p hp s hbus hirq
  -- with the registers written out, the record updates compare field by field
  cases s
  fin_cases hp <;> exact busEvent_of_total (c := .unknown) (f := recoverFromBusError _) (fun _ => rfl) hbus hirq

/-- Settles O28: the eight codes are of class `MasterDefensive`. -/
theorem masterCodesEndTransaction : Obligations.MasterCodesEndTransaction := by
  intro i hi s hbus hirq
  fin_cases hi <;> exact busEvent_of_total (c := .masterDefensive) (f := aMasterDefensive) (fun _ => rfl) hbus hirq

/-- Settles O29: the one code of class `MasterArbLost`. -/
theorem arbitrationLossIssuesNoStop : Obligations.ArbitrationLossIssuesNoStop := fun _ =>
  busEvent_of_total (c := .masterArbLost) (f := aMasterArbLost) fun _ => rfl

end Sys2Proof.Machine

/-! SUPPORT. The bus controller family (42_bus_controller_api.md): what each foreground operation answers where it is enabled,
the replay of the bytes since the rewind mark, and the statements O32, O34, O36 to O40 and O51. -/

namespace Sys2Proof.Machine

variable {i : Instr} {s t : State} {d : Byte}

/-! ### `READ` case by case (R56, R191) -/

/-- A full drain sets the mark. -/
theorem readOp_of_empty (hempty : s.rxHead = s.rxTail) :
    readOp s = .ok { s with rxMark := s.rxTail, out := { s.out with result := .read none } } := by
  simp [readOp, pop, (rxEmpty_eq_true s).2 hempty, giveResult]

/-- An unread byte is taken from `RX_TAIL`. -/
theorem readOp_of_unread (hne : s.rxHead ≠ s.rxTail) (htail : s.rxTail < s.cfg.nRx) :
    readOp s = .ok { s with
      rxTail := (s.rxTail + 1) % s.cfg.nRx
      out := { s.out with result := .read (some (byteAt .rx s.rxTail s)) } } := by
  obtain ⟨u, hu⟩ := readOp_completes htail
  rcases readOp_cases hu with ⟨hempty, -⟩ | ⟨-, -, rfl⟩
  · exact absurd hempty hne
  · exact hu

/-- Settles O32: `readOp` by whether the ring is empty. -/
theorem readPopsOrMarks : Obligations.ReadPopsOrMarks := by
  intro s hidle
  refine ⟨fun hempty => ?_, fun hne htail => ?_⟩
  · exact (foregroundOp_of_idle hidle).trans (congrArg outcomeOf (readOp_of_empty (s := beginStep s) hempty))
  · exact (foregroundOp_of_idle hidle).trans (congrArg outcomeOf (readOp_of_unread (s := beginStep s) hne htail))

/-! ### `TRANSMIT` of listed bytes (R193) -/

/-- Below the list's length a payload has the listed byte, whatever the free values are. -/
theorem payloadByte_listed (draw : Nat) {bytes : List Byte} {k : Nat} (h : k < bytes.length) :
    some (payloadByte draw bytes k) = bytes[k]? := by
  simp [payloadByte, h]

/-- A fully listed payload uses up no free value. -/
theorem payloadDraws_listed (bytes : List Byte) : payloadDraws bytes.length bytes = 0 := if_neg (Nat.lt_irrefl _)

/-- Settles O34: R193's cases with every byte listed. -/
theorem transmitStagesPayload : Obligations.TransmitStagesPayload := by
  intro bytes s hidle
  rw [exec_fgTransmit_of_idle bytes.length bytes hidle]
  refine ⟨fun hlt => ?_, fun hle hmode => ?_, fun hle hmode => ?_⟩
  · rw [transmitOp_of_too_large (s := beginStep s) bytes hlt]
    rfl
  · rw [transmitOp_of_wrong_mode (s := beginStep s) bytes hle hmode]
    rfl
  · obtain ⟨m, hok, hstaged, hkept⟩ := transmitOp_of_accepted (s := beginStep s) bytes hle hmode
    rw [payloadDraws_listed] at hok
    exact ⟨m, congrArg outcomeOf hok, fun k hk => (hstaged k hk).trans (payloadByte_listed _ hk), hkept⟩

/-! ### The operations that only write registers (R194 to R198) -/

/-- The marker of R200 as one register write. -/
theorem markMidTransaction_eq_update (s : State) :
    markMidTransaction s = { s with
      modelFault :=
        if s.mode ≠ .ready ∧ .initMidTransaction ∉ s.modelFault then .initMidTransaction :: s.modelFault
        else s.modelFault } := by
  rw [markMidTransaction_eq, raiseModelFault]
  -- with the registers written out, the record updates compare field by field
  cases s
  split_ifs <;> simp_all

/-- Settles O36: the marker of R200, then the register writes of R194. -/
theorem initResetsRegisters : Obligations.InitResetsRegisters := by
  intro addr s hidle
  have hmark := markMidTransaction_eq_update (beginStep s)
  calc exec (.fgInit addr) s
      = .next (giveResult .done (initRegisters addr (markMidTransaction (beginStep s)))) :=
        foregroundOp_of_idle (op := initOp addr) hidle
    _ = _ := by rw [hmark]; rfl

/-- Settles O37: the stop sequence shared with the handler, and the wait. -/
theorem forceStopWaits : Obligations.ForceStopWaits := fun _ hidle => foregroundOp_of_idle (op := forceStopOp) hidle

/-- Settles O38: both halves of R197's enabling condition hold. -/
theorem resumeEndsWait : Obligations.ResumeEndsWait := by
  intro s hwait hstopped
  simp [exec, execFgResume, hwait, hstopped, giveResult, setMode, beginStep]

/-- Settles O39: the enabled operation is the two writes and the pulse of R196. -/
theorem releaseBusReenables : Obligations.ReleaseBusReenables := fun _ hidle =>
  foregroundOp_of_idle (op := releaseBusOp) hidle

/-- Settles O40: the enabled operation is the one write of R198. -/
theorem clearErrorClearsLatch : Obligations.ClearErrorClearsLatch := fun _ hidle =>
  foregroundOp_of_idle (op := clearErrorOp) hidle

/-! ### Sequences of instructions -/

/-- A sequence goes on from the state its first instruction answers. -/
theorem runAll_cons_of_next {rest : List Instr} (h : exec i s = .next t) : runAll (i :: rest) s = runAll rest t := by
  simp [runAll, h]

/-- A sequence that completes is followed by the next one. -/
theorem runAll_append_of_next {first second : List Instr} (h : runAll first s = .next t) :
    runAll (first ++ second) s = runAll second t := by
  induction first generalizing s with
  | nil =>
    cases h
    rfl
  | cons i rest ih =>
    cases hi : exec i s with
    | next u =>
      rw [List.cons_append, runAll_cons_of_next hi]
      exact ih (by rwa [runAll_cons_of_next hi] at h)
    | fault f => simp [runAll, hi] at h
    | refused r => simp [runAll, hi] at h

/-! ### The replay of the bytes since the mark (R192, R247) -/

theorem unread_length (s : State) : (unread s).length = slotsFrom s.rxTail s := by
  rw [← unreadFrom_tail, unreadFrom_length]

/-- What a data code leaves whose byte is stored (R134): see `exec_dataCode_of_room`. -/
def storePayload (d : Byte) (s : State) : State :=
  { s with
    rxBuf := Memory.write s.rxHead d s.rxBuf
    rxHead := nextIndex s.cfg.nRx s.rxHead
    ackEn := true
    out := { Outputs.quiet with release := true } }

/-- What a peeking consumer relies on between the state `s₀` at its mark and its rewind: from the mark to `RX_HEAD` stand the
bytes unread at `s₀` and those that have arrived since, and `RX_TAIL` has not gone back before the mark. -/
structure KeepsSinceMark (s₀ : State) (arrived : List Byte) (s : State) : Prop where
  inv : s.Inv
  bus : s.busEn = true
  irq : s.irqEn = true
  idle : s.fgState = .idle
  cfg : s.cfg = s₀.cfg
  mode : s.mode = s₀.mode
  mark : s.rxMark = s₀.rxMark
  since : unreadFrom s.rxMark s = unread s₀ ++ arrived
  tail : (unread s).length ≤ (unread s₀ ++ arrived).length

section
variable {s₀ : State} {arrived : List Byte}

/-- The gate of R111 reads the mode and the parameters only. -/
theorem KeepsSinceMark.intercepted_eq (h : KeepsSinceMark s₀ arrived s) (d : Byte) :
    intercepted s d = intercepted s₀ d := by
  simp [intercepted, h.cfg, h.mode]

/-- A `READ` that is no full drain moves `RX_TAIL` alone, one unread byte on. -/
theorem KeepsSinceMark.read (h : KeepsSinceMark s₀ arrived s) (hpos : 0 < (unread s).length) :
    ∃ t, exec .fgRead s = .next t ∧ KeepsSinceMark s₀ arrived t ∧ (unread t).length = (unread s).length - 1 := by
  obtain ⟨hwf, ⟨hhead, htail, -⟩, -⟩ := h.inv
  have hne : s.rxHead ≠ s.rxTail := by
    rw [unread_length] at hpos
    exact fun he => hpos.ne' ((head_eq_tail_iff_slots hhead htail).1 he)
  have hread := (readPopsOrMarks s h.idle).2 hne htail
  have hlen : (unread s).length = (unreadFrom ((s.rxTail + 1) % s.cfg.nRx) s).length + 1 :=
    congrArg List.length (unreadFrom_pop (wf_bounds hwf).1 hhead htail hne)
  refine ⟨_, hread, ⟨exec_keeps_inv h.inv hread, h.bus, h.irq, h.idle, h.cfg, h.mode, h.mark, h.since, ?_⟩, ?_⟩
  · exact (Nat.le_of_succ_le hlen.ge).trans h.tail
  · exact Nat.eq_sub_of_add_eq hlen.symm

/-- A payload byte that leaves at most `N_RX - 1` bytes since the mark is stored, behind the unread bytes and behind those
since the mark. -/
theorem KeepsSinceMark.arrive (h : KeepsSinceMark s₀ arrived s) (hi : i ∈ [Instr.evSrDataAck d, .evSrGcallDataAck d])
    (hdata : intercepted s₀ d = none) (hfits : (unread s₀ ++ arrived).length + 1 ≤ s₀.cfg.nRx - 1) :
    ∃ t, exec i s = .next t ∧ KeepsSinceMark s₀ (arrived ++ [d]) t ∧ (unread t).length = (unread s).length + 1 := by
  obtain ⟨hwf, ⟨hhead, htail, hmark, -⟩, -⟩ := h.inv
  have hn := (wf_bounds hwf).1
  rw [← h.cfg] at hfits
  have hfromMark : slotsFrom s.rxMark s < s.cfg.nRx - 1 := by
    rw [← unreadFrom_length, h.since]
    omega
  have hfromTail : slotsFrom s.rxTail s < s.cfg.nRx - 1 := by
    rw [← unread_length]
    have := h.tail
    omega
  have hroom : rxFull s = false := by
    rw [← Bool.not_eq_true, rxFull_iff_slots hn hhead htail]
    exact hfromTail.ne
  have hexec : exec i s = .next (storePayload d s) :=
    exec_dataCode_of_room hi h.bus h.irq ((h.intercepted_eq d).trans hdata) hroom hhead
  have hsince : unreadFrom s.rxMark (storePayload d s) = unreadFrom s.rxMark s ++ [d] :=
    unreadFrom_push hn hhead hmark hfromMark rfl rfl rfl
  have hunread : unread (storePayload d s) = unread s ++ [d] := unreadFrom_push hn hhead htail hfromTail rfl rfl rfl
  refine ⟨_, hexec, ⟨exec_keeps_inv h.inv hexec, h.bus, h.irq, h.idle, h.cfg, h.mode, h.mark, ?_, ?_⟩, ?_⟩
  · rw [← List.append_assoc, ← h.since]
    exact hsince
  · rw [hunread, ← List.append_assoc]
    simpa [← Nat.add_assoc, Nat.lt_add_one_iff] using h.tail
  · simp [hunread]

/-- A peek step is the `READ` or brings in one byte. -/
theorem PeekStep.read_or_arrival (op : PeekStep) : op = .read ∨ ∃ d, op = .arrive d ∨ op = .arriveByGeneralCall d := by
  cases op <;> simp

/-- The steps of a consumer that peeks within R247's limits complete and keep the bytes since the mark. -/
theorem KeepsSinceMark.runAll_peekSteps {ops : List PeekStep} (h : KeepsSinceMark s₀ arrived s)
    (hdata : ∀ d, .arrive d ∈ ops ∨ .arriveByGeneralCall d ∈ ops → intercepted s₀ d = none)
    (hdrain : noFullDrain (unread s).length ops = true)
    (hfits : (unread s₀ ++ arrived).length + (ops.filterMap PeekStep.byte?).length ≤ s₀.cfg.nRx - 1) :
    ∃ t, runAll (ops.map PeekStep.instr) s = .next t ∧
      KeepsSinceMark s₀ (arrived ++ ops.filterMap PeekStep.byte?) t := by
  induction ops generalizing s arrived with
  | nil => exact ⟨s, rfl, by simpa using h⟩
  | cons op rest ih =>
    have hrest : ∀ d, .arrive d ∈ rest ∨ .arriveByGeneralCall d ∈ rest → intercepted s₀ d = none := fun d hd =>
      hdata d (hd.imp (List.mem_cons_of_mem _) (List.mem_cons_of_mem _))
    rcases op.read_or_arrival with rfl | ⟨d, hop⟩
    · obtain ⟨hpos, hdrain⟩ := (Bool.and_eq_true _ _).mp hdrain
      obtain ⟨u, hread, hu, hlen⟩ := h.read (of_decide_eq_true hpos)
      obtain ⟨t, ht, hkeeps⟩ := ih hu hrest (hlen ▸ hdrain) hfits
      exact ⟨t, (runAll_cons_of_next hread).trans ht, hkeeps⟩
    · have hcode : op.instr ∈ [Instr.evSrDataAck d, .evSrGcallDataAck d] := by
        rcases hop with rfl | rfl <;> simp [PeekStep.instr]
      have hbyte : op.byte? = some d := by rcases hop with rfl | rfl <;> rfl
      have hdrain : noFullDrain ((unread s).length + 1) rest = true := by rcases hop with rfl | rfl <;> exact hdrain
      have hdata : intercepted s₀ d = none := hdata d (by rcases hop with rfl | rfl <;> simp)
      rw [List.filterMap_cons_some hbyte, List.length_cons] at hfits
      obtain ⟨u, harrive, hu, hlen⟩ := h.arrive hcode hdata (by omega)
      obtain ⟨t, ht, hkeeps⟩ := ih hu hrest (hlen ▸ hdrain)
        (by rw [← List.append_assoc, List.length_append, List.length_singleton]; omega)
      refine ⟨t, (runAll_cons_of_next harrive).trans ht, ?_⟩
      rwa [List.filterMap_cons_some hbyte, List.append_cons]

end

/-- Settles O51: the steps keep the bytes since the mark, and the rewind makes the mark the read index. -/
theorem rewindReplaysSinceMark : Obligations.RewindReplaysSinceMark := by
  intro s ops hinv hbus hirq hidle hatMark hdata hdrain hfits
  have hstart : KeepsSinceMark s [] s :=
    ⟨hinv, hbus, hirq, hidle, rfl, rfl, rfl, by rw [← hatMark, unreadFrom_tail, List.append_nil], by simp⟩
  obtain ⟨t, hrun, hkeeps⟩ := hstart.runAll_peekSteps hdata hdrain (by simpa using hfits)
  have hrewind := resetReadCursorRewinds t hkeeps.idle
  refine ⟨_, (runAll_append_of_next hrun).trans (runAll_cons_of_next hrewind), ?_, hkeeps.mark, hkeeps.mark⟩
  exact hkeeps.since

end Sys2Proof.Machine

/-! SUPPORT. The exceptions family (60_exceptions.md): no step disables the events, and the statement O11. -/

namespace Sys2Proof.Machine

variable {i : Instr} {s t : State}

/-- Where events are enabled they stay enabled, since no instruction clears `BUS_EN` or `IRQ_EN` (R30, R31). -/
theorem exec_keeps_events_enabled (h : exec i s = .next t) (hen : enabled .event s = true) :
    enabled .event t = true := by
  obtain ⟨hbus, hirq⟩ := (Bool.and_eq_true _ _).mp hen
  obtain ⟨-, hkeepIrq, hkeepBus, -⟩ := enablesAndConfigurationStay i s t h
  exact (Bool.and_eq_true _ _).mpr ⟨hkeepBus hbus, hkeepIrq hirq⟩

/-- Settles O11: `exec_completes` row by row of R11's table; an event's own enabling condition is what the step keeps. -/
theorem enabledStepCompletes : Obligations.EnabledStepCompletes := by
  intro i s hinv hen
  obtain ⟨t, ht⟩ := exec_completes hinv hen
  exact ⟨t, ht, fun hkind => exec_keeps_events_enabled ht (hkind ▸ hen)⟩

end Sys2Proof.Machine

/-! SUPPORT. The reset and hazards family (70_reset_and_hazards.md): what holds at power-on, the inertness before `INIT` along a
step, the terminator over unread bytes, and the statements O44 to O47, O49 and O52. -/

namespace Sys2Proof.Machine

variable {i : Instr} {s t : State}

/-! ### Power-on (R240, R241, R242) -/

/-- Settles O44: every entry of R240's table, read off the power-on state. -/
theorem powerOnValues : Obligations.PowerOnValues := by
  intro p
  and_intros <;> rfl

/-- Settles O45: of the registers `INIT` writes (O36), the others have R194's value at power-on already. -/
theorem initialisedState : Obligations.InitialisedState := fun p a =>
  initResetsRegisters a (State.powerOn p) rfl

/-- Settles O46: the enables are 0, the ring is empty, the mode is `Ready`, and a stop request leaves the wait pending. -/
theorem powerOnBehaviour : Obligations.PowerOnBehaviour := by
  intro p
  refine ⟨fun i hkind => ?_, fun sp k => ?_, ?_, fun length bytes hle => ?_, ?_⟩
  · exact disabledStepRefused i _ _ (by rw [hkind]; rfl) (by rw [hkind]; rfl)
  · cases sp <;> rfl
  · exact ⟨_, (readPopsOrMarks (State.powerOn p) rfl).1 rfl, rfl⟩
  · have hop := transmitOp_of_wrong_mode (s := beginStep (State.powerOn p)) bytes hle nofun
    exact ⟨_, (exec_fgTransmit_of_idle length bytes rfl).trans (congrArg outcomeOf hop), rfl⟩
  · exact ⟨_, forceStopWaits (State.powerOn p) rfl, rfl, rfl, disabledStepRefused .fgResume _ _ rfl rfl⟩

/-- At power-on the ring is empty and nothing is staged, so no byte has to be written yet. -/
theorem powerOn_inv {p : Config.Params} (hwf : p.wf = true) : (State.powerOn p).Inv := by
  have hpos : 0 < p.nRx := Nat.lt_of_lt_of_le (by decide) (wf_bounds hwf).1
  have hnone : WrittenFrom 0 (State.powerOn p) := by
    intro k hk
    simp [slotsFrom, State.powerOn] at hk
  exact ⟨hwf, ⟨hpos, hpos, hpos, Nat.zero_le _, Nat.zero_le _⟩, ⟨rfl, rfl, by simp [State.powerOn], by simp [State.powerOn]⟩,
    ⟨hnone, hnone, by simp [State.powerOn]⟩, by simp [State.powerOn, legalErrLatch, errNone], rfl, List.nodup_nil⟩

theorem powerOn_inertUntilInit (p : Config.Params) : (State.powerOn p).InertUntilInit :=
  ⟨nofun, fun _ => ⟨rfl, rfl, rfl, rfl, rfl, rfl, rfl, rfl, rfl, rfl, rfl⟩⟩

/-- Settles O47: the reset state is the power-on state of parameters that meet R9. -/
theorem invariantHoldsAtPowerOn : Obligations.InvariantHoldsAtPowerOn :=
  ⟨fun p hwf => ⟨powerOn_inv hwf, powerOn_inertUntilInit p⟩, powerOn_inv (by decide)⟩

/-! ### Inertness until `INIT` (R242) -/

/-- With both enables set the inertness asks for nothing else. -/
theorem State.InertUntilInit.of_enabled (hbus : t.busEn = true) (hirq : t.irqEn = true) : t.InertUntilInit :=
  ⟨fun _ => hirq, fun hoff => absurd hbus (by simp [hoff])⟩

/-- While `BUS_EN = 0` no event runs and `INIT` alone sets it (R31); what the other steps write to a register of the inert
state is the value it holds already. -/
theorem exec_keeps_inertUntilInit (hinert : s.InertUntilInit) (h : exec i s = .next t) : t.InertUntilInit := by
  by_cases hbus : s.busEn = true
  · have hen := exec_keeps_events_enabled h ((Bool.and_eq_true _ _).mpr ⟨hbus, hinert.1 hbus⟩)
    obtain ⟨hbus', hirq'⟩ := (Bool.and_eq_true _ _).mp hen
    exact .of_enabled hbus' hirq'
  · obtain ⟨hmode, hhead, htail, hmark, hlen, hidx, herr, hst, hcy, hho, hfault⟩ := hinert.2 (Bool.eq_false_iff.2 hbus)
    cases exec_effect h with
    | event _ _ _ _ _ _ bus => exact absurd bus hbus
    | init a _ _ eq =>
      subst eq
      exact .of_enabled rfl rfl
    | read _ _ ok =>
      rcases readOp_cases ok with ⟨-, rfl⟩ | ⟨hne, -, rfl⟩
      · exact ⟨hinert.1, fun _ => ⟨hmode, hhead, htail, htail, hlen, hidx, herr, hst, hcy, hho, hfault⟩⟩
      · exact absurd (hhead.trans htail.symm) hne
    | transmit _ _ _ _ ok =>
      rcases transmitOp_cases ok with ⟨_, rfl, -⟩ | ⟨-, hsend, -⟩
      · exact hinert
      · exact absurd (hmode.symm.trans hsend) (by decide)
    | releaseBus _ _ eq =>
      subst eq
      exact ⟨fun _ => rfl, hinert.2⟩
    | forceStop _ _ eq | stopDone _ _ eq =>
      subst eq
      exact hinert
    | resetReadCursor _ _ eq | clearError _ _ eq | resume _ _ _ eq | clearStatus _ eq | clearCycle _ eq | clearHold _ eq =>
      subst eq
      exact ⟨hinert.1, fun _ => by simp [hmode, hhead, htail, hmark, hlen, hidx, herr, hst, hcy, hho, hfault]⟩

/-- Settles O49: the inertness reads no request still to come, and every instruction keeps it. -/
theorem stepKeepsInertUntilInit : Obligations.StepKeepsInertUntilInit := by
  intro s t hinert h
  rcases step_cases s with ⟨r, hr⟩ | ⟨i, rest, hexec⟩
  · rw [hr] at h
    cases h
  · rw [hexec] at h
    exact exec_keeps_inertUntilInit (s := { s with inputs := rest }) hinert h

/-! ### A stop over unread bytes (R245, R246) -/

theorem byteAt_rx_write_other {j k : Nat} (b : Byte) (h : j ≠ k) :
    byteAt .rx j { s with rxBuf := Memory.write k b s.rxBuf } = byteAt .rx j s := by
  simp [byteAt, spaceMem, Memory.read?_write_other _ b h]

theorem unread_eq_nil_iff (hhead : s.rxHead < s.cfg.nRx) (htail : s.rxTail < s.cfg.nRx) :
    unread s = [] ↔ s.rxHead = s.rxTail := by
  rw [head_eq_tail_iff_slots hhead htail, ← unread_length, List.length_eq_zero_iff]

/-- The slot `RX_TAIL` is none of those after it up to `RX_HEAD`: a byte written there becomes the oldest unread one, and the
others are kept. -/
theorem unread_write_tail (b : Byte) (hn : 2 ≤ s.cfg.nRx) (hhead : s.rxHead < s.cfg.nRx) (htail : s.rxTail < s.cfg.nRx)
    (hne : s.rxHead ≠ s.rxTail) :
    unread { s with rxBuf := Memory.write s.rxTail b s.rxBuf } = b :: (unread s).tail := by
  have hpop : unread s = _ := unreadFrom_pop hn hhead htail hne
  have hslots : slotsFrom s.rxTail s = slotsFrom ((s.rxTail + 1) % s.cfg.nRx) s + 1 := by
    rw [← unread_length, hpop, List.length_cons, unreadFrom_length]
  have hlt := slotsFrom_lt (i := s.rxTail) hn
  rw [hpop, List.tail_cons]
  refine (unreadFrom_pop (s := { s with rxBuf := Memory.write s.rxTail b s.rxBuf }) hn hhead htail hne).trans
    (congrArg₂ _ ?_ (List.map_congr_left fun k hk => ?_))
  · simp [byteAt, spaceMem]
  · have hk : k < slotsFrom ((s.rxTail + 1) % s.cfg.nRx) s := List.mem_range.1 hk
    have hother : ((s.rxTail + 1) % s.cfg.nRx + k) % s.cfg.nRx ≠ s.rxTail := by
      rw [Nat.mod_add_mod, Nat.add_assoc, slots_add_mod htail (by omega)]
      split_ifs <;> omega
    exact byteAt_rx_write_other b hother

/-- `A_StopRx` moves no index of the ring (R137). -/
theorem aStopRx_indices (h : aStopRx s = .ok t) :
    t.cfg = s.cfg ∧ t.rxHead = s.rxHead ∧ t.rxTail = s.rxTail ∧ t.rxMark = s.rxMark := by
  rcases aStopRx_cases h with ⟨-, rfl⟩ | ⟨-, -, rfl⟩ <;> exact ⟨rfl, rfl, rfl, rfl⟩

/-- The oldest unread byte is kept only by the full-ring guard of the terminator, that is with `N_RX - 1` bytes unread (R58). -/
theorem aStopRx_queue (hinv : s.Inv) (h : aStopRx s = .ok t) :
    match unread s with
    | [] => unread t = []
    | b :: rest => unread t = (if rest.length + 1 = s.cfg.nRx - 1 then b else 0x00) :: rest := by
  obtain ⟨hwf, ⟨hhead, htail, -⟩, -⟩ := hinv
  have hn := (wf_bounds hwf).1
  obtain ⟨hcfg', hhead', htail', -⟩ := aStopRx_indices h
  cases hunread : unread s with
  | nil =>
    have hempty := (unread_eq_nil_iff hhead htail).1 hunread
    refine (unread_eq_nil_iff ?_ ?_).2 ?_ <;> simpa only [hcfg', hhead', htail']
  | cons b rest =>
    have hne : s.rxHead ≠ s.rxTail := fun he => by simp [(unread_eq_nil_iff hhead htail).2 he] at hunread
    have hfull : rxFull s = true ↔ rest.length + 1 = s.cfg.nRx - 1 := by
      rw [rxFull_iff_slots hn hhead htail, ← unread_length, hunread, List.length_cons]
    simp only [← hfull]
    rcases aStopRx_cases h with ⟨hf, rfl⟩ | ⟨hf, -, rfl⟩
    · rw [if_pos hf]
      exact hunread
    · rw [if_neg (by simp [hf])]
      refine (unread_write_tail terminator hn hhead htail hne).trans ?_
      rw [hunread]
      rfl

/-- Settles O52: `SR_STOP` is `A_StopRx` handed back, and the hand-back touches neither the indices nor the queue. -/
theorem terminatorOverwritesOldestUnread : Obligations.TerminatorOverwritesOldestUnread := by
  intro s t hinv h
  obtain ⟨-, -, u, hact, rfl⟩ := busEvent_next (c := .stopRx) h
  obtain ⟨-, hhead, htail, hmark⟩ := aStopRx_indices hact
  have hqueue := aStopRx_queue (s := beginStep s) hinv.beginStep hact
  exact ⟨hhead, htail, hmark, hqueue⟩

end Sys2Proof.Machine

/-! SUPPORT. The round trip between the decoder and the encoder (30_encoding.md sections 1, 4 and 5): the normal form of a
request, and the statements O3 and O4. -/

namespace Sys2Proof

/-! ### Encoding, then decoding -/

/-- A `TRANSMIT` request is decoded exactly when its list is well-formed (R92, R96). -/
theorem decode_encode_fgTransmit {length : Nat} {bytes : List Byte} (h : (Instr.fgTransmit length bytes).wf = true) :
    decode (encode (.fgTransmit length bytes)) = .ok (.fgTransmit length bytes) := if_pos h

/-- Settles O3: only the payload of `TRANSMIT` is checked; every other row of R83, R93 and R95 evaluates to itself, whatever
its operand. -/
theorem decodeEncodeRoundTrip : Obligations.DecodeEncodeRoundTrip := by
  intro i hwf
  cases i with
  | fgTransmit length bytes => exact decode_encode_fgTransmit hwf
  | _ => rfl

/-! ### The normal form of a request (R96) -/

/-- The request with the fields its operation does not read at zero: the form R96 writes. -/
def Request.clearUnread : Request → Request
  | .event S D => .event (statusCode S) (if statusMap (statusCode S) = .dataRx then D else 0)
  | .fg op addr length bytes =>
    .fg op (if op = 0 then addr else 0) (if op = 3 then length else 0) (if op = 3 then bytes else [])
  | r => r

/-- The canonical requests are those the normal form leaves alone. -/
theorem Request.canonical_iff (r : Request) : r.canonical = true ↔ r.clearUnread = r := by
  cases r with
  | event S D =>
    by_cases hread : statusMap (statusCode S) = .dataRx <;>
      simp [canonical, clearUnread, hread, eq_comm (a := S), eq_comm (a := D)]
  | fg op addr length bytes =>
    simp [canonical, clearUnread, or_iff_not_imp_left, imp_and, eq_comm (b := addr), eq_comm (b := length),
      eq_comm (b := bytes)]
  | stopDone => exact iff_of_true rfl rfl
  | fgResume => exact iff_of_true rfl rfl
  | clr k => exact iff_of_true rfl rfl

/-! ### Decoding, then encoding -/

theorem decodeStatus_wf (S D : Byte) : (decodeStatus S D).wf = true := by
  unfold decodeStatus
  split <;> rfl

/-- Row by row of R83: the instruction of a status byte is written with its code, and with `D` where the code reads it. -/
theorem encode_decodeStatus (S D : Byte) : encode (decodeStatus S D) = (Request.event S D).clearUnread := by
  have hbyte : statusField S < 32 := by
    have := S.isLt
    unfold statusField
    omega
  rw [Request.clearUnread, Machine.statusCode_eq_ofNat]
  unfold decodeStatus
  generalize statusField S = field at hbyte
  interval_cases field <;> rfl

/-- Row by row of R93: what a foreground request decodes to is well-formed, and is written with the request's code and the
fields the operation reads. -/
theorem decodeFg_ok {op : BitVec 4} {addr : BitVec 7} {length : Nat} {bytes : List Byte} {i : Instr}
    (h : decodeFg op addr length bytes = .ok i) :
    i.wf = true ∧ encode i = (Request.fg op addr length bytes).clearUnread := by
  have hop : op.toNat < 7 := by
    by_contra hge
    cases (decodeFg_of_reserved addr length bytes (not_lt.1 hge)).symm.trans h
  obtain rfl | rfl | rfl | rfl | rfl | rfl | rfl :
    op = 3 ∨ op = 0 ∨ op = 1 ∨ op = 2 ∨ op = 4 ∨ op = 5 ∨ op = 6 := by bv_omega
  · by_cases hlisted : payloadListed length bytes = true
    · cases (if_pos hlisted).symm.trans h
      exact ⟨hlisted, rfl⟩
    · cases (if_neg hlisted).symm.trans h
  all_goals cases h; exact ⟨rfl, rfl⟩

/-- Row by row of R95: a clear request has no field its operation does not read. -/
theorem decodeClr_ok {k : BitVec 2} {i : Instr} (h : decodeClr k = .ok i) : i.wf = true ∧ encode i = .clr k := by
  obtain rfl | rfl | rfl | rfl : k = 0 ∨ k = 1 ∨ k = 2 ∨ k = 3 := by bv_omega
  all_goals cases h
  all_goals exact ⟨rfl, rfl⟩

/-- What a request decodes to is well-formed, and encoding it gives the request's normal form, canonical or not. -/
theorem decode_ok {r : Request} {i : Instr} (h : decode r = .ok i) : i.wf = true ∧ encode i = r.clearUnread := by
  cases r with
  | event S D => cases h; exact ⟨decodeStatus_wf S D, encode_decodeStatus S D⟩
  | stopDone => cases h; exact ⟨rfl, rfl⟩
  | fg op addr length bytes => exact decodeFg_ok h
  | fgResume => cases h; exact ⟨rfl, rfl⟩
  | clr k => exact decodeClr_ok h

/-- Settles O4: a canonical request is its own normal form. -/
theorem canonicalRequestIsEncoded : Obligations.CanonicalRequestIsEncoded := by
  intro r i hdec
  obtain ⟨hwf, hencode⟩ := decode_ok hdec
  exact ⟨hwf, fun hcanonical => hencode.trans (r.canonical_iff.1 hcanonical)⟩

end Sys2Proof
